-- ==== Sys2Proof/Word.lean ====
section
/-! DEFINITION. The word types of the station: bytes of the setup port, 16-bit words, 10-bit reading
codes and sets of station codes. -/

namespace Sys2Proof

/-- A byte of the setup port (section 11.9). -/
abbrev Byte := BitVec 8

/-- A 16-bit value: the word number, the unit number, a two-byte field of a record. -/
abbrev Half := BitVec 16

/-- A demand, current, temperature or voltage reading: a 10-bit code, 0..1023 (scope, section 6). -/
abbrev Reading := BitVec 10

/-- A set of station codes 0..7, bit k standing for code k (section 11.9); it reads in ascending order
and holds a code at most once (section 4.2). -/
abbrev CodeSet := BitVec 8

/-- A set of the thirteen sticky flags, in the flag bits of section 11.9. -/
abbrev FlagSet := BitVec 13

end Sys2Proof
end

