-- ==== Sys2Proof/Syntax.lean ====
section
/-! DEFINITION. The commands of the block: one constructor per row of spec/opcode_table.json, with the
operands the row's rule needs from outside. -/

namespace Sys2Proof

/-- The five straps as sampled at the release of reset (R173). -/
structure Straps where
  code0 : Bool
  code1 : Bool
  code2 : Bool
  auto  : Bool
  pol   : Bool
  deriving DecidableEq, Repr

/-- Which byte of a setup port transaction is completed (R174): the command byte, or a later byte with the
eight bits the host shifted in on SDI. -/
inductive PortByte where
  | command
  | later (sdi : Byte)
  deriving DecidableEq, Repr

/-- The commands. A timed row (PULL_POINT, OWN_END, ...) is the event at its count; an edge row is the
qualified edge; a port row is one completed byte of a transaction with that command. -/
inductive Instr where
  /-- RESET: power-on, or a low level on RESET_N (R95). -/
  | reset
  /-- RESET_RELEASE: the five strap levels, and whether SSN is low at the release (R173, section 11.2). -/
  | resetRelease (straps : Straps) (ssnLow : Bool)
  /-- FRAME_START: a qualified rising edge of FRM (R3). -/
  | frameStart
  /-- FRAME_FALLING_EDGE: a qualified falling edge of FRM (R11). -/
  | frameFallingEdge
  /-- MARK_CLASSIFIED: the frame counter reaches 32 with FRM high (R12). -/
  | markClassified
  /-- PULL_POINT (R5). -/
  | pullPoint
  /-- OWN_END (R6). -/
  | ownEnd
  /-- STUCK (R16, R17). -/
  | stuck
  /-- LISTEN_STUCK_DECLARED (R21). -/
  | listenStuckDeclared
  /-- FOUNDING (R24). -/
  | founding
  /-- FREE_RUN_FRAME (R2). -/
  | freeRunFrame
  /-- DRIVE_POINT (R34). -/
  | drivePoint
  /-- BIT_TIME: the level of the fourth SHR sample, true for a low line, which reads 1 (R38, R41). -/
  | bitTime (sample : Bool)
  /-- WORD_CLOSE (R47). -/
  | wordClose
  /-- HOUSEKEEPING_PACE (R138). -/
  | housekeepingPace
  /-- WARM_UP_COMPLETE (R106). -/
  | warmUpComplete
  /-- LEAD_POINT (R118). -/
  | leadPoint
  /-- ON_POINT (R119). -/
  | onPoint
  /-- PULSE_END (R120). -/
  | pulseEnd
  /-- DEAD_TIME_RUN_OUT (R121). -/
  | deadTimeRunOut
  /-- CURRENT_TRIGGER (R134). -/
  | currentTrigger
  /-- OCI_ASSERT: a qualified assertion of OCI (R128). -/
  | ociAssert
  /-- CONVERSION_COMPLETE: the result code of the conversion (R133). -/
  | conversionComplete (code : Reading)
  /-- DMD_ACTIVE_EDGE: a qualified active-going edge of DMD (R151). -/
  | dmdActiveEdge
  /-- DMD_INACTIVE_EDGE: a qualified inactive-going edge of DMD (R152). -/
  | dmdInactiveEdge
  /-- DMD_TIMEOUT (R154). -/
  | dmdTimeout
  /-- IDENT (R178). -/
  | ident (byte : PortByte)
  /-- READ_CONFIG (R177). -/
  | readConfig (byte : PortByte)
  /-- WRITE_CONFIG (R177). -/
  | writeConfig (byte : PortByte)
  /-- START (R80). -/
  | start (byte : PortByte)
  /-- READ_STATUS (R181). -/
  | readStatus (byte : PortByte)
  /-- READ_ROSTER (R76). -/
  | readRoster (byte : PortByte)
  /-- READ_HISTORY (R183). -/
  | readHistory (byte : PortByte)
  /-- ASIDE (R84). -/
  | aside (byte : PortByte)
  /-- RETURN (R84). -/
  | ret (byte : PortByte)
  /-- CLEAR_FAULT (R94). -/
  | clearFault (byte : PortByte)
  /-- UNKNOWN: a transaction whose command byte is the given byte (R175). -/
  | unknown (code : Byte) (byte : PortByte)
  /-- TRANSACTION_CUT: SSN rises (R174). -/
  | transactionCut
  /-- FRM_FIRST_QUALIFIED_LEVEL: the level of the first two equal FRM samples after SETUP (R19). -/
  | frmFirstQualifiedLevel (high : Bool)
  deriving DecidableEq, Repr

end Sys2Proof
end

