-- ==== Sys2Proof/WellFormed.lean ====
section
/-! DEFINITION. Which commands are well formed. Operand widths are bounded by their types; the one check
left is that an UNKNOWN row carries a byte that is no command code. -/

namespace Sys2Proof

/-- The command codes of section 11.9. -/
def commandCodes : List Byte :=
  [0x01, 0x02, 0x03, 0x04, 0x05, 0x11, 0x12, 0x21, 0x22, 0x23]

/-- A well-formed command: an UNKNOWN row's byte is not a command code (R175). -/
def Instr.wf : Instr → Bool
  | .unknown code _ => !commandCodes.contains code
  | _ => true

end Sys2Proof
end

