-- ==== Sys2Proof/Config.lean ====
section
/-! DEFINITION. What is fixed for one part or left open by the manual (the free values), and the type of
the configuration record, which is STATE of the setup port until START fixes it. -/

namespace Sys2Proof

/-- The unit number fixed at manufacture (scope section 6; R178). A free value: nothing constrains it. -/
opaque Config.unitNumber : Half

/-- Which of several events that fall at ONE instant the station takes first (R25, R87, R97, R114, R125,
R128, R139, R141, R153, R168 give the outcome of each order and fix no order). A free value, applied to a
counter of State that moves on at each such choice. -/
opaque Config.takenFirst : Nat → Nat

/-- The configuration record (R177, layout of section 11.9), each field with the width the layout gives it:
the port stores every value as written, values outside a field's range included. -/
structure ConfigRecord where
  frameLen    : Half
  dead        : Byte
  dutyMax     : Half
  sampleAt    : Half
  shed1       : Half
  shed2       : Half
  shed3       : Half
  shed4       : Half
  shed5       : Half
  shed6       : Half
  shed7       : Half
  shedHyst    : Byte
  rosterDepth : Byte
  trimStep    : Byte
  trimLimit   : Byte
  shareBand   : Byte
  ramp        : Byte
  holdWords   : Byte
  warmFrames  : Half
  parkWords   : Byte
  ocRun       : Byte
  lagMax      : Byte
  hkWords     : Byte
  tempTrip    : Half
  tempClear   : Half
  vinMin      : Half
  vinOk       : Half
  dmdMin      : Half
  dmdMax      : Half
  alertMask   : Half
  deriving DecidableEq, Repr

end Sys2Proof
end

