-- ==== Sys2Proof/Machine/Defaults.lean ====
section
/-! DEFINITION. The default configuration record (section 11.9). -/

namespace Sys2Proof.Machine

/-- The defaults of section 11.9, which the record holds after power-on and after RESET_N (R177, R185). -/
def defaultConfig : ConfigRecord where
  frameLen := 640
  dead := 12
  dutyMax := 544
  sampleAt := 320
  shed1 := 0
  shed2 := 0
  shed3 := 0
  shed4 := 0
  shed5 := 0
  shed6 := 0
  shed7 := 0
  shedHyst := 16
  rosterDepth := 2
  trimStep := 2
  trimLimit := 64
  shareBand := 8
  ramp := 4
  holdWords := 1
  warmFrames := 64
  parkWords := 0
  ocRun := 4
  lagMax := 32
  hkWords := 4
  tempTrip := 900
  tempClear := 820
  vinMin := 300
  vinOk := 340
  dmdMin := 400
  dmdMax := 4000
  alertMask := 0x1FFF

end Sys2Proof.Machine
end

