-- ==== Sys2Proof/Machine/State.lean ====
section
/-! DEFINITION. The state of the station as plain data, block by block, and the state after reset. -/

namespace Sys2Proof.Machine

/-- No command of the table stops the station, so no fault is ever raised (safe: nothing is stopped). -/
inductive Fault where
  deriving DecidableEq, Repr

/-- The refusals. -/
inductive Refusal where
  /-- Raised by `exec` alone, for a row that has no meaning yet; safe. No arm raises it in this model. -/
  | notModelled (mnemonic : String)
  deriving DecidableEq, Repr

/-- The ten station states (section 5.1). -/
inductive StationState where
  | setup | listen | check | active | shed | parked | warming | hold | aside | fault
  deriving DecidableEq, Repr

/-- The states a close can decide for the next frame 0 (R78, R71, R87, R100, R165). -/
inductive Decision where
  | check | active | shed | parked | warming
  deriving DecidableEq, Repr

/-- The fault causes (R77). -/
inductive FaultCause where
  | duplicate | overcurrent | overtemp
  deriving DecidableEq, Repr

/-- The aside causes (R84). -/
inductive AsideCause where
  | demandLost | undervolt | commanded
  deriving DecidableEq, Repr

/-- The set of aside causes present (R77); `commanded` is also the commanded-aside flag. -/
structure AsideCauses where
  demandLost : Bool
  undervolt  : Bool
  commanded  : Bool
  deriving DecidableEq, Repr

/-- A judged SHR bit: settled 0, settled 1, or unsettled (R38). -/
inductive ReadBit where
  | zero | one | unsettled
  deriving DecidableEq, Repr

/-- How the latest high interval of FRM stands (R11, R12): no rising edge has opened one since START, opened and
not yet classified, or classified once. -/
inductive FrameClass where
  | noFrame | opened | normal | mark
  deriving DecidableEq, Repr

/-- The thirteen sticky flags (section 11.5). -/
inductive Flag where
  | duplicate | overcurrent | overtemp | undervolt | demandLost | stuck | markError | haltSeen
  | damagedWord | shareLimit | hkLate | groupWait | rosterChange
  deriving DecidableEq, Repr

/-- A timer that runs or stands (R15, R20, R21, R138). -/
structure Timer where
  running : Bool
  count   : Nat
  deriving DecidableEq, Repr

/-- An input filter (R1, R127, R150): the latest sample, how many equal samples in a row it ends (up to the
number that qualifies), and the qualified level. -/
structure Filter where
  streak : Nat
  sample : Bool
  level  : Option Bool
  deriving DecidableEq, Repr

/-- The frame unit (section 1.7, section 2.7). -/
structure FrameUnit where
  filter       : Filter
  counter      : Nat
  index        : Option (Fin 30)
  ownEnd       : Bool
  takingPart   : Bool
  pulling      : Bool
  lastLength   : Nat
  lastHigh     : Nat
  lastWait     : Nat
  waitRun      : Nat
  stuckTimer   : Timer
  quietTimer   : Timer
  declared     : Bool
  armed        : Bool
  fellInListen : Bool
  classed      : FrameClass
  checked      : Bool
  markThis     : Bool
  markLast     : Bool
  deriving DecidableEq, Repr

/-- An arbitrated field of the word in progress (R42), its values `w` bits wide. -/
structure Field (w : Nat) where
  contended  : Bool
  contending : Bool
  value      : Option (BitVec w)
  bits       : List ReadBit
  deriving DecidableEq, Repr

/-- The exchange unit (section 3.5). -/
structure ExchangeUnit where
  drive      : Bool
  driven     : Bool
  samples    : List Bool
  wordOpen   : Bool
  presence   : List ReadBit
  halt       : Option ReadBit
  damaged    : Bool
  phase      : Field 3
  current    : Field 10
  closeDue   : Bool
  wordNumber : Half
  deriving DecidableEq, Repr

/-- The sent check bit (R56, R73): the value presented, and whether it was the unit-number bit. -/
structure SentCheck where
  bit     : Bool
  fromOwn : Bool
  deriving DecidableEq, Repr

/-- The roster unit (section 4.2). -/
structure RosterUnit where
  observed   : CodeSet
  candidate  : CodeSet
  agree      : Nat
  accepted   : CodeSet
  checkIndex : BitVec 4
  rank       : Option Nat
  nReq       : Nat
  nActive    : Nat
  inSet      : Bool
  sentCheck  : Option SentCheck
  deriving DecidableEq, Repr

/-- The station controller (R77, R90, R104). -/
structure Controller where
  state      : StationState
  decided    : Option Decision
  causes     : AsideCauses
  faultCause : Option FaultCause
  announce   : Nat
  haltWord   : Bool
  request    : Nat
  shedRun    : Nat
  warmCount  : Nat
  holdCount  : Nat
  cold       : Bool
  bias       : Bool
  deriving DecidableEq, Repr

/-- The phase generator (section 7.7). The dead-time timer is `none` when it has run out (R117). `owedCut` and
`owedPoint` belong to the present instant (log 20): an entry from ACTIVE to FAULT was taken first, and a cut by OCI,
or a due pulse refused by OCI, at this same instant declares OVERCURRENT as a second cause (R92). -/
structure PhaseGenerator where
  rank       : Option Nat
  nActive    : Option Nat
  onPoint    : Option Nat
  leadWindow : Bool
  leadTaken  : Bool
  onTaken    : Bool
  duty       : Nat
  ramp       : Nat
  inFlight   : Bool
  remaining  : Nat
  pulseDuty  : Nat
  triggered  : Bool
  deadTimer  : Option Nat
  oci        : Filter
  ocRun      : Nat
  owedCut    : Bool
  owedPoint  : Bool
  hg         : Bool
  lg         : Bool
  deriving DecidableEq, Repr

/-- The converter's channels (R133). -/
inductive Channel where
  | isns | tsns | vsns
  deriving DecidableEq, Repr

/-- A conversion in progress (R133, R135): its channel, its timer, the code sampled, and whether a rejoin has
made its result one to discard. -/
structure Conversion where
  channel : Channel
  timer   : Nat
  held    : Reading
  discard : Bool
  deriving DecidableEq, Repr

/-- The measurement unit (section 8.8). -/
structure MeasurementUnit where
  conv       : Option Conversion
  queue      : List Channel
  tally      : Nat
  pace       : Timer
  freeFrames : Nat
  accSum     : Nat
  accCount   : Nat
  wholeWord  : Bool
  share      : Reading
  shareValid : Bool
  lastMax    : Reading
  trim       : Nat
  limitRun   : Nat
  lastTsns   : Reading
  lastVsns   : Reading
  deriving DecidableEq, Repr

/-- The period condition (section 9.2). -/
inductive PeriodCondition where
  | noPeriod | opened | judged
  deriving DecidableEq, Repr

/-- The demand monitor (section 9.6). -/
structure DemandMonitor where
  filter   : Filter
  phase    : Bool
  capture  : Nat
  high     : Nat
  period   : Nat
  cond     : PeriodCondition
  timeouts : Nat
  lastGood : Reading
  goodRun  : Nat
  badRun   : Nat
  valid    : Bool
  deriving DecidableEq, Repr

/-- The word result record (R48); a field a record does not carry is `none`. -/
structure WordRecord where
  wordNumber  : Half
  damaged     : Bool
  halt        : ReadBit
  observedMap : Option CodeSet
  phaseResult : Option (BitVec 3)
  currentMax  : Option Reading
  ownShare    : Option Reading
  won         : Option Bool
  rosterAfter : CodeSet
  stateAfter  : StationState
  deriving DecidableEq, Repr

/-- The commands of the setup port (R176), and the byte that is none (R175). -/
inductive PortCommand where
  | ident | readConfig | writeConfig | start | readStatus | readRoster | readHistory
  | aside | ret | clearFault | unknown
  deriving DecidableEq, Repr

/-- The result codes (R175). -/
inductive ResultCode where
  | accepted
  | refusedState
  | invalidConfig (check : Nat)
  | unknown
  deriving DecidableEq, Repr

/-- A transaction in progress (R174): `bytes` completed so far, the data bytes fixed at the command byte, the
data bytes received, the flags a READ_STATUS snapshot showed, and how many records a READ_HISTORY returned
that the history still holds. -/
structure Transaction where
  cmd      : PortCommand
  result   : ResultCode
  bytes    : Nat
  out      : List Byte
  received : List Byte
  shown    : FlagSet
  returned : Nat
  deriving DecidableEq, Repr

/-- The setup port and the status block (chapter 11). -/
structure PortUnit where
  config    : ConfigRecord
  flags     : FlagSet
  marks     : Option FlagSet
  raisedNow : FlagSet
  history   : List WordRecord
  txn       : Option Transaction
  awaitRise : Bool
  sdo       : Option Byte
  deriving DecidableEq, Repr

/-- The levels of the input pins, set from outside: whether FRM and SHR are held low by another, the levels
of DMD and OCI, and the code at which each sense input stands. -/
structure Inputs where
  frmLow  : Bool
  shrLow  : Bool
  dmdHigh : Bool
  ociHigh : Bool
  isns    : Reading
  tsns    : Reading
  vsns    : Reading
  deriving DecidableEq, Repr

/-- The station. `straps` is none while RESET_N is low (R173); `choices` counts the free choices of order made
(the model's own field); `pending` is the queue of waiting commands. -/
structure State where
  straps     : Option Straps
  unitNumber : Half
  frame      : FrameUnit
  exch       : ExchangeUnit
  roster     : RosterUnit
  ctl        : Controller
  gen        : PhaseGenerator
  meas       : MeasurementUnit
  dmd        : DemandMonitor
  port       : PortUnit
  inputs     : Inputs
  choices    : Nat
  pending    : List Instr
  deriving DecidableEq, Repr

/-- A timer that stands at 0. -/
def Timer.stopped : Timer := ⟨false, 0⟩

/-- A filter that has taken no sample and has no level. -/
def Filter.empty : Filter := ⟨0, false, none⟩

/-- An arbitrated field that is clear (R42). -/
def Field.clear (w : Nat) : Field w := ⟨false, false, none, []⟩

/-- The frame unit after reset (section 1.7, section 2.7). -/
def FrameUnit.reset : FrameUnit where
  filter := Filter.empty
  counter := 0
  index := none
  ownEnd := false
  takingPart := false
  pulling := false
  lastLength := 0
  lastHigh := 0
  lastWait := 0
  waitRun := 0
  stuckTimer := Timer.stopped
  quietTimer := Timer.stopped
  declared := false
  armed := false
  fellInListen := false
  classed := .noFrame
  checked := false
  markThis := false
  markLast := false

/-- The exchange unit after reset (section 3.5). -/
def ExchangeUnit.reset : ExchangeUnit where
  drive := false
  driven := false
  samples := []
  wordOpen := false
  presence := []
  halt := none
  damaged := false
  phase := Field.clear 3
  current := Field.clear 10
  closeDue := false
  wordNumber := 0

/-- The roster unit emptied: after reset (R57), at a rejoin (R32), at an entry to CHECK (R58). -/
def RosterUnit.emptied : RosterUnit where
  observed := 0
  candidate := 0
  agree := 0
  accepted := 0
  checkIndex := 0
  rank := none
  nReq := 1
  nActive := 0
  inSet := false
  sentCheck := none

/-- The station controller after reset (R77, R111). -/
def Controller.reset : Controller where
  state := .setup
  decided := none
  causes := ⟨true, false, false⟩
  faultCause := none
  announce := 0
  haltWord := false
  request := 1
  shedRun := 0
  warmCount := 0
  holdCount := 0
  cold := false
  bias := true

/-- The phase generator after reset (section 7.7, R132). No rule gives a reset value for the duty kept with the
pulse and the mark of its trigger: 0 and not taken are the model's choice (log 19). -/
def PhaseGenerator.reset : PhaseGenerator where
  rank := none
  nActive := none
  onPoint := none
  leadWindow := false
  leadTaken := false
  onTaken := false
  duty := 0
  ramp := 0
  inFlight := false
  remaining := 0
  pulseDuty := 0
  triggered := false
  deadTimer := none
  oci := Filter.empty
  ocRun := 0
  owedCut := false
  owedPoint := false
  hg := false
  lg := false

/-- The measurement unit after reset (section 8.8). The table of section 8.8 has no row for the count of
free-running frames, which starts at the end of announcing (R138): 0 at reset is the model's choice (log 19). -/
def MeasurementUnit.reset : MeasurementUnit where
  conv := none
  queue := []
  tally := 0
  pace := Timer.stopped
  freeFrames := 0
  accSum := 0
  accCount := 0
  wholeWord := false
  share := 0
  shareValid := false
  lastMax := 0
  trim := 0
  limitRun := 0
  lastTsns := 0
  lastVsns := 0

/-- The demand monitor after reset (section 9.6). -/
def DemandMonitor.reset : DemandMonitor where
  filter := Filter.empty
  phase := false
  capture := 0
  high := 0
  period := 0
  cond := .noPeriod
  timeouts := 0
  lastGood := 0
  goodRun := 0
  badRun := 0
  valid := false

/-- The port and the status block after reset (R185). -/
def PortUnit.reset : PortUnit where
  config := defaultConfig
  flags := 0
  marks := none
  raisedNow := 0
  history := []
  txn := none
  awaitRise := false
  sdo := none

/-- The input levels the model names for reset (DESIGN CHOICE, log 3: the spec gives none). -/
def Inputs.quiet : Inputs := ⟨false, false, false, false, 0, 0, 0⟩

/-- The machine with reset applied: RESET_N is low, so the straps have no value (R173). The unit number and the
input levels have no reset value in the spec (log 3, log 4). -/
def State.reset : State where
  straps := none
  unitNumber := Config.unitNumber
  frame := FrameUnit.reset
  exch := ExchangeUnit.reset
  roster := RosterUnit.emptied
  ctl := Controller.reset
  gen := PhaseGenerator.reset
  meas := MeasurementUnit.reset
  dmd := DemandMonitor.reset
  port := PortUnit.reset
  inputs := Inputs.quiet
  choices := 0
  pending := []

end Sys2Proof.Machine
end

