-- ==== Sys2Proof/Machine/Ops.lean ====
section
/-! DEFINITION. The named operations over State: one setter per block, the accessors every meaning reads
through, and the small operations of timers, filters, code sets and the word in progress. -/

namespace Sys2Proof

/-- The station code CODE0 + 2 × CODE1 + 4 × CODE2 (R173). -/
def Straps.code (x : Straps) : Nat := x.code0.toNat + 2 * x.code1.toNat + 4 * x.code2.toNat

/-- The strap byte of IDENT: bits 0..2 CODE0..2, bit 3 AUTO, bit 4 POL (section 11.9). No layout assigns bits 5..7;
that they read as 0 is the model's choice (log 29). -/
def Straps.number (x : Straps) : Nat := x.code + 8 * x.auto.toNat + 16 * x.pol.toNat

end Sys2Proof

namespace Sys2Proof.Machine

/-! ## Setters -/

def State.setFrame (s : State) (f : FrameUnit) : State := { s with frame := f }
def State.setExch (s : State) (e : ExchangeUnit) : State := { s with exch := e }
def State.setRoster (s : State) (r : RosterUnit) : State := { s with roster := r }
def State.setCtl (s : State) (c : Controller) : State := { s with ctl := c }
def State.setGen (s : State) (g : PhaseGenerator) : State := { s with gen := g }
def State.setMeas (s : State) (m : MeasurementUnit) : State := { s with meas := m }
def State.setDmd (s : State) (d : DemandMonitor) : State := { s with dmd := d }
def State.setPort (s : State) (p : PortUnit) : State := { s with port := p }
def State.setStraps (s : State) (x : Option Straps) : State := { s with straps := x }
def State.setPending (s : State) (q : List Instr) : State := { s with pending := q }

/-! ## Configuration, straps, states -/

/-- FRAME_LEN as a count. -/
def State.frameLen (s : State) : Nat := s.port.config.frameLen.toNat

/-- DUTY_MAX as a count. -/
def State.dutyMax (s : State) : Nat := s.port.config.dutyMax.toNat

/-- DEAD as a count. -/
def State.dead (s : State) : Nat := s.port.config.dead.toNat

/-- SAMPLE_AT as a count. -/
def State.sampleAt (s : State) : Nat := s.port.config.sampleAt.toNat

/-- The station's own code (R57); while RESET_N is low the straps have no value and no block uses it (R173). -/
def State.code (s : State) : Nat :=
  match s.straps with
  | some x => x.code
  | none => 0

/-- Whether AUTO is strapped high (R81). -/
def State.autoHigh (s : State) : Bool :=
  match s.straps with
  | some x => x.auto
  | none => false

/-- The level at which DMD is active (R150): POL high, active while high. -/
def State.activeLevel (s : State) : Bool :=
  match s.straps with
  | some x => x.pol
  | none => false

/-- A member: ACTIVE, SHED, PARKED, WARMING or HOLD (scope, section 5). -/
def StationState.isMember : StationState → Bool
  | .active | .shed | .parked | .warming | .hold => true
  | _ => false

/-- Started: every state other than SETUP (R176). -/
def State.started (s : State) : Bool := s.ctl.state != .setup

/-- A station in CHECK or in a member state, which an aside cause moves to ASIDE (R85). -/
def StationState.leavesForAside (x : StationState) : Bool := x == .check || x.isMember

/-- In FAULT after announcing has ended: no part in the barrier any more (R91). -/
def State.faultEnded (s : State) : Bool := s.ctl.state == .fault && !s.frame.takingPart

/-! ## Timers -/

/-- A timer that starts at 0. -/
def Timer.started : Timer := ⟨true, 0⟩

/-- One count passes. -/
def Timer.advance (t : Timer) : Timer := if t.running then ⟨true, t.count + 1⟩ else t

/-- A running timer that has reached `n`. -/
def Timer.reached (t : Timer) (n : Nat) : Bool := t.running && n ≤ t.count

/-- A counter that advances by one and saturates at 65535 (R2, R151). -/
def saturate16 (n : Nat) : Nat := min 65535 (n + 1)

/-! ## Input filters -/

/-- The filter takes one sample; `need` equal samples in a row qualify a level (R1, R127, R150). -/
def Filter.take (need : Nat) (x : Bool) (f : Filter) : Filter :=
  if 0 < f.streak ∧ f.sample = x then { f with streak := min need (f.streak + 1) }
  else { f with streak := 1, sample := x }

/-- The level the latest samples qualify, if enough of them are equal. -/
def Filter.qualified (need : Nat) (f : Filter) : Option Bool :=
  if need ≤ f.streak then some f.sample else none

/-- The qualified level takes the value `v`, as `need` equal samples show it. -/
def Filter.settle (need : Nat) (v : Bool) : Filter := ⟨need, v, some v⟩

/-- The samples qualify the level `v`, and the qualified level is now `old`. -/
def Filter.turns (need : Nat) (old : Option Bool) (v : Bool) (f : Filter) : Bool :=
  f.level == old && f.qualified need == some v

/-- FRM at the pin: low when the station or another holds it (scope section 6). -/
def State.frmPin (s : State) : Bool := !(s.frame.pulling || s.inputs.frmLow)

/-- SHR as a bit: 1 when the station or another pulls it (scope section 6, R38). -/
def State.shrBit (s : State) : Bool := s.exch.drive || s.inputs.shrLow

/-! ## Code sets -/

/-- Whether code `k` is in the set. -/
def hasCode (m : CodeSet) (k : Nat) : Bool := m.getLsbD k

/-- How many codes of the set lie below `k`. -/
def codesBelow (m : CodeSet) (k : Nat) : Nat := ((List.range k).filter (hasCode m)).length

/-- How many codes the set holds. -/
def codeCount (m : CodeSet) : Nat := codesBelow m 8

/-- The rank of `code` in the accepted roster `m` (R64). -/
def rankIn (m : CodeSet) (code : Nat) : Option Nat :=
  if hasCode m code then some (codesBelow m code) else none

/-! ## Aside causes -/

/-- The set with the cause added (R77: adding one present changes nothing). -/
def AsideCauses.add (x : AsideCauses) : AsideCause → AsideCauses
  | .demandLost => { x with demandLost := true }
  | .undervolt => { x with undervolt := true }
  | .commanded => { x with commanded := true }

/-- The set with the cause removed (R77: removing one absent changes nothing). -/
def AsideCauses.remove (x : AsideCauses) : AsideCause → AsideCauses
  | .demandLost => { x with demandLost := false }
  | .undervolt => { x with undervolt := false }
  | .commanded => { x with commanded := false }

/-- No aside cause is present. -/
def AsideCauses.isEmpty (x : AsideCauses) : Bool := !(x.demandLost || x.undervolt || x.commanded)

/-! ## Bits of the word in progress -/

/-- The value of a settled bit; an unsettled one has none and counts as 0 where a value is asked for. -/
def ReadBit.bit : ReadBit → Bool
  | .one => true
  | _ => false

/-- A settled bit. -/
def ReadBit.settled (b : Bool) : ReadBit := if b then .one else .zero

/-- Whether the bit read is settled and equal to the bit sent (R44). -/
def ReadBit.agrees (r : ReadBit) (sent : Bool) : Bool := r == ReadBit.settled sent

/-- The judgement of a frame's samples (R38): settled when all four agree. -/
def judge (samples : List Bool) : ReadBit :=
  if samples = List.replicate 4 true then .one
  else if samples = List.replicate 4 false then .zero
  else .unsettled

/-- The field result: the bits read, the first the most significant (R45). -/
def fieldResult (w : Nat) (bits : List ReadBit) : BitVec w :=
  BitVec.ofNat w (bits.foldl (fun acc r => 2 * acc + r.bit.toNat) 0)

/-- The observed map: code k is in it when the presence bit of slot k read a settled 1 (R59). -/
def presenceMap (bits : List ReadBit) : CodeSet :=
  BitVec.ofNat 8 (bits.foldr (fun r acc => 2 * acc + r.bit.toNat) 0)

/-- The word in progress is cleared (R42, R47, R52): its bits, its contention and its damaged flag. -/
def ExchangeUnit.cleared (e : ExchangeUnit) : ExchangeUnit :=
  { e with
    samples := []
    wordOpen := false
    presence := []
    halt := none
    damaged := false
    phase := Field.clear 3
    current := Field.clear 10
    closeDue := false }

end Sys2Proof.Machine
end

