-- ==== Sys2Proof/Machine/Flags.lean ====
section
/-! DEFINITION. The thirteen sticky flags: their bits, raising, clearing by a status read, and ALERT. -/

namespace Sys2Proof.Machine

/-- The flag bits of section 11.9. -/
def Flag.number : Flag → Nat
  | .duplicate => 0
  | .overcurrent => 1
  | .overtemp => 2
  | .undervolt => 3
  | .demandLost => 4
  | .stuck => 5
  | .markError => 6
  | .haltSeen => 7
  | .damagedWord => 8
  | .shareLimit => 9
  | .hkLate => 10
  | .groupWait => 11
  | .rosterChange => 12

/-- The set that holds one flag. -/
def Flag.bit (f : Flag) : FlagSet := BitVec.ofNat 13 (2 ^ f.number)

/-- A raise (R180, R181): the flag is set, and a status read between its command byte and its effect point
keeps the raise mark. -/
def PortUnit.raise (p : PortUnit) (f : Flag) : PortUnit :=
  { p with
    flags := p.flags ||| f.bit
    marks := p.marks.map (· ||| f.bit)
    raisedNow := p.raisedNow ||| f.bit }

/-- The flag is raised in the status block. -/
def State.raise (s : State) (f : Flag) : State := s.setPort (s.port.raise f)

/-- The flag is raised if the condition holds. -/
def State.raiseIf (s : State) (b : Bool) (f : Flag) : State := if b then s.raise f else s

/-- Whether a sticky flag is set. -/
def State.flagSet (s : State) (f : Flag) : Bool := s.port.flags.getLsbD f.number

/-- The sticky flag a fault cause sets (R89). -/
def FaultCause.flag : FaultCause → Flag
  | .duplicate => .duplicate
  | .overcurrent => .overcurrent
  | .overtemp => .overtemp

/-- The effect point of a READ_STATUS (R181): every flag the snapshot showed set and whose raise mark is
clear is cleared, and the marks are dropped. -/
def PortUnit.clearShown (p : PortUnit) (shown : FlagSet) : PortUnit :=
  { p with
    flags := p.flags &&& ~~~(shown &&& ~~~(p.marks.getD 0))
    marks := none }

/-- ALERT is pulled when a flag is set whose bit in ALERT_MASK is 1 (R184). -/
def State.alert (s : State) : Bool := s.port.flags.setWidth 16 &&& s.port.config.alertMask != 0

end Sys2Proof.Machine
end

