-- ==== Sys2Proof/Machine/Operands.lean ====
section
/-! DEFINITION. The byte layouts of the setup port (section 11.9) and the START checks (R179). -/

namespace Sys2Proof.Machine

/-- A two-byte field, its more significant byte first (section 11.9). -/
def twoBytes (x : Half) : List Byte := [x.extractLsb' 8 8, x.extractLsb' 0 8]

/-- A number as one byte. -/
def oneByte (n : Nat) : List Byte := [BitVec.ofNat 8 n]

/-- A number as a two-byte field. -/
def twoBytesOf (n : Nat) : List Byte := twoBytes (BitVec.ofNat 16 n)

/-- The byte at an offset of the data received. -/
def byteAt (data : List Byte) (i : Nat) : Byte := data.getD i 0

/-- The two-byte field at an offset, its more significant byte at the lower offset. -/
def halfAt (data : List Byte) (i : Nat) : Half := byteAt data i ++ byteAt data (i + 1)

/-- The 48 bytes of the configuration record, in the order of the layout (section 11.9). -/
def configBytes (c : ConfigRecord) : List Byte :=
  twoBytes c.frameLen ++ [c.dead] ++ twoBytes c.dutyMax ++ twoBytes c.sampleAt
    ++ twoBytes c.shed1 ++ twoBytes c.shed2 ++ twoBytes c.shed3 ++ twoBytes c.shed4
    ++ twoBytes c.shed5 ++ twoBytes c.shed6 ++ twoBytes c.shed7
    ++ [c.shedHyst, c.rosterDepth, c.trimStep, c.trimLimit, c.shareBand, c.ramp, c.holdWords]
    ++ twoBytes c.warmFrames
    ++ [c.parkWords, c.ocRun, c.lagMax, c.hkWords]
    ++ twoBytes c.tempTrip ++ twoBytes c.tempClear ++ twoBytes c.vinMin ++ twoBytes c.vinOk
    ++ twoBytes c.dmdMin ++ twoBytes c.dmdMax ++ twoBytes c.alertMask

/-- The configuration record that 48 received bytes spell (section 11.9). -/
def configOfBytes (d : List Byte) : ConfigRecord where
  frameLen := halfAt d 0
  dead := byteAt d 2
  dutyMax := halfAt d 3
  sampleAt := halfAt d 5
  shed1 := halfAt d 7
  shed2 := halfAt d 9
  shed3 := halfAt d 11
  shed4 := halfAt d 13
  shed5 := halfAt d 15
  shed6 := halfAt d 17
  shed7 := halfAt d 19
  shedHyst := byteAt d 21
  rosterDepth := byteAt d 22
  trimStep := byteAt d 23
  trimLimit := byteAt d 24
  shareBand := byteAt d 25
  ramp := byteAt d 26
  holdWords := byteAt d 27
  warmFrames := halfAt d 28
  parkWords := byteAt d 30
  ocRun := byteAt d 31
  lagMax := byteAt d 32
  hkWords := byteAt d 33
  tempTrip := halfAt d 34
  tempClear := halfAt d 36
  vinMin := halfAt d 38
  vinOk := halfAt d 40
  dmdMin := halfAt d 42
  dmdMax := halfAt d 44
  alertMask := halfAt d 46

/-- The seven shed thresholds in order. -/
def shedThresholds (c : ConfigRecord) : List Nat :=
  [c.shed1.toNat, c.shed2.toNat, c.shed3.toNat, c.shed4.toNat, c.shed5.toNat, c.shed6.toNat,
    c.shed7.toNat]

/-- A value lies from `lo` up to `hi`. -/
def within (lo hi n : Nat) : Bool := lo ≤ n && n ≤ hi

/-- START check 1 (R179): every field within its fixed range of section 11.9, ROSTER_DEPTH 2 or 4, and the
three highest bits of ALERT_MASK 0. -/
def configInRange (c : ConfigRecord) : Bool :=
  within 256 4095 c.frameLen.toNat && within 4 63 c.dead.toNat && within 16 4095 c.dutyMax.toNat
    && within 64 4095 c.sampleAt.toNat && (shedThresholds c).all (within 0 1023)
    && within 0 127 c.shedHyst.toNat && (c.rosterDepth == 2 || c.rosterDepth == 4)
    && within 1 15 c.trimStep.toNat && within 0 255 c.trimLimit.toNat
    && within 0 63 c.shareBand.toNat && within 1 63 c.ramp.toNat && within 1 4 c.holdWords.toNat
    && within 16 1023 c.warmFrames.toNat && within 0 255 c.parkWords.toNat
    && within 1 15 c.ocRun.toNat && within 8 255 c.lagMax.toNat && within 1 16 c.hkWords.toNat
    && within 0 1023 c.tempTrip.toNat && within 0 1023 c.tempClear.toNat
    && within 0 1023 c.vinMin.toNat && within 0 1023 c.vinOk.toNat
    && within 64 16383 c.dmdMin.toNat && within 64 16383 c.dmdMax.toNat
    && within 0 0x1FFF c.alertMask.toNat

/-- A list that does not decrease from one entry to the next. -/
def nonDecreasing : List Nat → Bool
  | a :: b :: rest => a ≤ b && nonDecreasing (b :: rest)
  | _ => true

/-- The eight START checks in order (R179). -/
def startChecks (c : ConfigRecord) : List Bool :=
  [ configInRange c,
    c.dutyMax.toNat + 2 * c.dead.toNat + 64 ≤ c.frameLen.toNat,
    c.sampleAt.toNat + 6 + 8 < c.frameLen.toNat,
    nonDecreasing (shedThresholds c),
    c.tempClear.toNat < c.tempTrip.toNat,
    c.vinMin.toNat < c.vinOk.toNat,
    c.dmdMin.toNat < c.dmdMax.toNat,
    2 * (c.dutyMax.toNat / 2 + 48) ≤ c.frameLen.toNat ]

/-- The number of the first check of a list that fails, counted from `n`. -/
def firstFailing (n : Nat) : List Bool → Option Nat
  | [] => none
  | true :: rest => firstFailing (n + 1) rest
  | false :: _ => some n

/-- The number of the first START check the record fails, if any (R179). -/
def firstStartFailure (c : ConfigRecord) : Option Nat := firstFailing 1 (startChecks c)

/-- The state codes of section 11.9. -/
def StationState.number : StationState → Nat
  | .setup => 0
  | .listen => 1
  | .check => 2
  | .active => 3
  | .shed => 4
  | .parked => 5
  | .warming => 6
  | .hold => 7
  | .aside => 8
  | .fault => 9

/-- The fault cause byte of the status record (section 11.9). -/
def faultByte : Option FaultCause → Nat
  | none => 0
  | some .duplicate => 1
  | some .overcurrent => 2
  | some .overtemp => 3

/-- The aside causes byte of the status record: bit 0 DEMAND_LOST, bit 1 UNDERVOLT, bit 2 COMMANDED. That the bits 3..7,
which no layout assigns, read as 0 is the model's choice (log 29). -/
def AsideCauses.number (x : AsideCauses) : Nat :=
  x.demandLost.toNat + 2 * x.undervolt.toNat + 4 * x.commanded.toNat

/-- A rank as a byte, 0xFF when it has no value (R178). -/
def rankByte (r : Option Nat) : Nat := r.getD 0xFF

/-- The five bytes of IDENT (R178). -/
def State.identBytes (s : State) : List Byte :=
  [0x2E, 0x01] ++ twoBytes s.unitNumber ++ oneByte ((s.straps.map Straps.number).getD 0)

/-- The 28 bytes of the status record as it stands (R181, section 11.9). That bits 13..15 of the flags field, which no
layout assigns, read as 0 is the model's choice (log 29). -/
def State.statusBytes (s : State) : List Byte :=
  oneByte s.ctl.state.number ++ oneByte s.ctl.causes.number ++ oneByte (faultByte s.ctl.faultCause)
    ++ oneByte s.ctl.announce ++ oneByte s.code ++ oneByte (rankByte s.roster.rank)
    ++ oneByte s.roster.nActive ++ twoBytesOf s.dmd.lastGood.toNat ++ oneByte s.dmd.valid.toNat
    ++ twoBytesOf s.meas.share.toNat ++ oneByte s.meas.shareValid.toNat
    ++ twoBytesOf s.meas.lastMax.toNat ++ oneByte s.meas.trim ++ twoBytesOf s.gen.duty
    ++ twoBytesOf s.gen.ramp ++ twoBytesOf s.meas.lastTsns.toNat ++ twoBytesOf s.meas.lastVsns.toNat
    ++ twoBytes s.exch.wordNumber ++ twoBytes (s.port.flags.setWidth 16)

/-- The seven bytes of READ_ROSTER (R76, R178, section 11.9). -/
def State.rosterBytes (s : State) : List Byte :=
  [s.roster.accepted, s.roster.candidate] ++ oneByte s.roster.agree
    ++ oneByte s.roster.checkIndex.toNat ++ oneByte (rankByte s.roster.rank)
    ++ oneByte s.roster.nReq ++ oneByte s.roster.nActive

/-- The halt byte of a history record: 0, 1, or 2 for unsettled (section 11.9). -/
def ReadBit.number : ReadBit → Nat
  | .zero => 0
  | .one => 1
  | .unsettled => 2

/-- The presence byte of a history record: bit 0 damaged, bit 1 contended, bit 2 won (section 11.9). That the bits 3..7,
which no layout assigns, read as 0 is the model's choice (log 29). -/
def WordRecord.presenceByte (r : WordRecord) : Nat :=
  r.damaged.toNat + 2 * r.ownShare.isSome.toNat + 4 * (r.won.getD false).toNat

/-- The 12 bytes of a history record; a field the record does not carry reads 0 (section 11.9). -/
def WordRecord.toBytes (r : WordRecord) : List Byte :=
  twoBytes r.wordNumber ++ oneByte r.presenceByte ++ oneByte r.halt.number
    ++ [r.observedMap.getD 0] ++ oneByte ((r.phaseResult.getD 0).toNat)
    ++ twoBytesOf ((r.currentMax.getD 0).toNat) ++ twoBytesOf ((r.ownShare.getD 0).toNat)
    ++ [r.rosterAfter] ++ oneByte r.stateAfter.number

/-- The data bytes of READ_HISTORY: the count, then the records, oldest first (R183). -/
def State.historyBytes (s : State) : List Byte :=
  oneByte s.port.history.length ++ s.port.history.flatMap WordRecord.toBytes

/-- The command that a command byte is, UNKNOWN when it is no command code (section 11.9, R175). -/
def portCommandOf (b : Byte) : PortCommand :=
  if b = 0x01 then .ident
  else if b = 0x02 then .readConfig
  else if b = 0x03 then .readStatus
  else if b = 0x04 then .readRoster
  else if b = 0x05 then .readHistory
  else if b = 0x11 then .writeConfig
  else if b = 0x12 then .start
  else if b = 0x21 then .aside
  else if b = 0x22 then .ret
  else if b = 0x23 then .clearFault
  else .unknown

/-- The result byte of a result code (section 11.9). -/
def ResultCode.byte : ResultCode → Byte
  | .accepted => 0x80
  | .refusedState => 0x81
  | .unknown => 0x82
  | .invalidConfig n => 0x90 + BitVec.ofNat 8 n

end Sys2Proof.Machine
end

