-- ==== Sys2Proof/Machine/Gates.lean ====
section
/-! DEFINITION. The shared operations of the phase generator: switching a gate off, stopping, and the
schedule swap. -/

namespace Sys2Proof.Machine

/-- HG is switched off; the dead-time timer restarts only if it was on (R117). -/
def PhaseGenerator.switchHgOff (g : PhaseGenerator) : PhaseGenerator :=
  { g with hg := false, deadTimer := if g.hg then some 0 else g.deadTimer }

/-- LG is switched off; the dead-time timer restarts only if it was on (R117). -/
def PhaseGenerator.switchLgOff (g : PhaseGenerator) : PhaseGenerator :=
  { g with lg := false, deadTimer := if g.lg then some 0 else g.deadTimer }

/-- A pulse ends, whole or cut: HG off, remaining duty 0, pulse-in-flight flag clear (R120). -/
def PhaseGenerator.endPulse (g : PhaseGenerator) : PhaseGenerator :=
  { g.switchHgOff with inFlight := false, remaining := 0 }

/-- What an exit from ACTIVE takes away whatever its kind (R113, R115, R116, R118, R129). -/
def PhaseGenerator.unschedule (g : PhaseGenerator) : PhaseGenerator :=
  { g with onPoint := none, leadWindow := false, ramp := 0, duty := 0, ocRun := 0 }

/-- The immediate stop (R124): both gates off at once, any pulse in flight cut. -/
def PhaseGenerator.stop (g : PhaseGenerator) : PhaseGenerator :=
  g.endPulse.switchLgOff.unschedule

/-- The exit from ACTIVE to SHED (R123): a pulse in flight runs on, LG goes off if it is on. -/
def PhaseGenerator.rest (g : PhaseGenerator) : PhaseGenerator := g.switchLgOff.unschedule

/-- In ACTIVE, LG comes on when HG is off, the dead-time timer has run out and no lead window is open (R121). -/
def PhaseGenerator.resumeLg (g : PhaseGenerator) : PhaseGenerator :=
  { g with lg := g.lg || (!g.hg && g.deadTimer.isNone && !g.leadWindow) }

/-- The rule of R121 applied in the station's present state. -/
def State.resumeLg (s : State) : State :=
  if s.ctl.state = .active then s.setGen s.gen.resumeLg else s

/-- The on-point of a rank among `n` running phases (R112). -/
def onPointOf (rank : Option Nat) (n frameLen : Nat) : Option Nat :=
  match rank with
  | some r => if r < n then some (r * frameLen / n) else none
  | none => none

/-- The count of the lead point of an on-point (R118), an on-point below DEAD having it late in the frame
before. -/
def leadCount (onPoint dead frameLen : Nat) : Nat :=
  if dead ≤ onPoint then onPoint - dead else frameLen - dead + onPoint

/-- What every exit from ACTIVE does in the measurement unit (R143, R146, R147). -/
def MeasurementUnit.leaveActive (m : MeasurementUnit) : MeasurementUnit :=
  { m with trim := 0, shareValid := false, wholeWord := false, limitRun := 0 }

/-- A frame 0 start copies the roster unit's rank and N_active (R112), but a schedule that a rejoin or a reset has
emptied stays empty until a frame 0 start in ACTIVE (R31, R113; log 21). -/
def State.copiesSchedule (s : State) : Bool := s.ctl.state == .active || s.gen.nActive.isSome

/-- The schedule swap of a frame 0 start, with the whole-word flag of a station that holds ACTIVE from it
(R112, R113, R118, R143). -/
def State.swapSchedule (s : State) : State :=
  let p := if s.ctl.state = .active then onPointOf s.roster.rank s.roster.nActive s.frameLen else none
  (s.setGen
    { s.gen with
      rank := if s.copiesSchedule then s.roster.rank else s.gen.rank
      nActive := if s.copiesSchedule then some s.roster.nActive else s.gen.nActive
      onPoint := p
      leadWindow := s.gen.leadWindow && p.isSome }).setMeas
    { s.meas with wholeWord := s.meas.wholeWord || s.ctl.state == .active }

/-! ## The duty of an on-point -/

/-- The frame counter of an ACTIVE station with an on-point has reached it (R114). -/
def State.onDue (s : State) : Bool :=
  match s.gen.onPoint with
  | some p => s.ctl.state == .active && !s.gen.onTaken && s.frame.counter == p
  | none => false

/-- The target (R114). -/
def State.target (s : State) : Nat :=
  min s.dutyMax (s.dmd.lastGood.toNat * s.frameLen / 1024 + s.meas.trim)

/-- The duty latched at an on-point (R115). -/
def State.latchedDuty (s : State) : Nat := min s.target s.gen.ramp

/-- Both gates are off and the dead-time timer has run out (R117, R119). -/
def PhaseGenerator.clear (g : PhaseGenerator) : Bool := !g.hg && !g.lg && g.deadTimer.isNone

end Sys2Proof.Machine
end

