-- ==== Sys2Proof/Machine/Control.lean ====
section
/-! DEFINITION. The shared operations of the station controller: the immediate entries to ASIDE, FAULT, HOLD and
LISTEN, the ends of a part in the barrier, START, the entry to CHECK, and the taking of a decided state. -/

namespace Sys2Proof.Machine

/-- The counters every entry to another state sets to 0, and the cold flag (R82, R85, R89, R32). -/
def Controller.calm (c : Controller) : Controller :=
  { c with shedRun := 0, warmCount := 0, holdCount := 0, cold := false }

/-- The power stage stops at once and the measurement unit leaves ACTIVE (R124, R143, R146, R147). -/
def State.stopSwitching (s : State) : State :=
  (s.setGen s.gen.stop).setMeas s.meas.leaveActive

/-- A truncation of the frame in progress would bring the OC-run to OC_RUN (R129, R130). -/
def State.runEnds (s : State) : Bool :=
  s.ctl.state == .active && decide (s.port.config.ocRun.toNat ≤ s.gen.ocRun + 1)

/-- A due pulse at an on-point of this instant (R114, R115, R119), apart from what OCI says to it; outside a lead window
LG is on by then and there is none (R121, R122). -/
def State.pulseDue (s : State) : Bool := s.onDue && decide (8 ≤ s.latchedDuty) && s.gen.resumeLg.clear

/-- The stop by a fault: the power stage stops (R124), and an OVERCURRENT declaration that OCI brings at this same
instant is still met as a second cause, for R92 gives both flags in either order (log 20). -/
def State.stopOwing (s : State) : State :=
  s.stopSwitching.setGen
    { s.gen.stop with
      owedCut := s.gen.owedCut || (s.runEnds && s.gen.inFlight)
      owedPoint := s.gen.owedPoint || (s.runEnds && s.pulseDue) }

/-! ## Standing aside -/

/-- The entry to ASIDE (R85, R104), its stop taken as R128 gives: OCI taken after it at the same instant finds no pulse
and declares nothing (R130; log 20). The halt value of the word in progress stays to the close, for its record (R41,
R48, R52), where the table of section 10.8 would have it not yet read (log 22). -/
def State.enterAside (s : State) : State :=
  s.stopSwitching.setCtl { s.ctl.calm with state := .aside, decided := none, bias := true }

/-- A cause is added (R84): a station in CHECK or a member state enters ASIDE at once (R85); one in ASIDE
loses a decided state (R87); elsewhere only the set changes. -/
def State.addCause (s : State) (c : AsideCause) : State :=
  let added := s.setCtl { s.ctl with causes := s.ctl.causes.add c }
  if s.ctl.state.leavesForAside then added.enterAside
  else if s.ctl.state = .aside then added.setCtl { added.ctl with decided := none }
  else added

/-- A cause is removed (R84). -/
def State.removeCause (s : State) (c : AsideCause) : State :=
  s.setCtl { s.ctl with causes := s.ctl.causes.remove c }

/-! ## Leaving LISTEN and the barrier -/

/-- What any exit from LISTEN does in the frame unit (R20, R21, R22). -/
def FrameUnit.leaveListen (f : FrameUnit) : FrameUnit :=
  { f with
    quietTimer := Timer.stopped
    stuckTimer := Timer.stopped
    declared := false
    armed := false
    fellInListen := false }

/-- A part in the barrier ends (R9, R10, R28): FRM released, no index, wait-run and stuck timer 0, mark-error
memory clear. -/
def FrameUnit.leaveBarrier (f : FrameUnit) : FrameUnit :=
  { f with
    takingPart := false
    pulling := false
    index := none
    waitRun := 0
    stuckTimer := Timer.stopped
    checked := false
    markThis := false
    markLast := false }

/-- SHR is released and the word in progress is cut (R37, R52). -/
def ExchangeUnit.cut (e : ExchangeUnit) : ExchangeUnit := { e.cleared with drive := false }

/-- The station's part in the barrier ends without a rejoin (R9, R37, R91): both lines released, the word cut,
and from here the frame counter runs freely from 0 (R2) and counts frames from 0 (R138). -/
def State.endPart (s : State) : State :=
  (((s.setFrame { s.frame.leaveBarrier with counter := 0 }).setExch
    s.exch.cut).setCtl { s.ctl with haltWord := false }).setMeas { s.meas with freeFrames := 0 }

/-! ## Faults -/

/-- The entry to FAULT (R89, R104): cause, flag, gates off, counters 0, `n` words to announce; the pace timer
stops and clears (R138). The halt value of the word in progress stays to the close, as at an entry to ASIDE (log 22). -/
def State.enterFault (s : State) (c : FaultCause) (n : Nat) : State :=
  ((s.stopOwing.setCtl
    { s.ctl.calm with
      state := .fault
      decided := none
      faultCause := some c
      announce := n
      haltWord := false
      bias := true }).setMeas
    { s.meas.leaveActive with pace := Timer.stopped, freeFrames := 0 }).raise c.flag

/-- A fault is declared (R88, R92): by the state, an entry to FAULT, a second cause, or nothing. -/
def State.declareFault (s : State) (c : FaultCause) : State :=
  match s.ctl.state with
  | .setup => s
  | .listen =>
    if c = .overtemp then
      (s.setFrame { s.frame.leaveListen with counter := 0 }).enterFault c 0
    else s
  | .fault => s.raise c.flag
  | _ => s.enterFault c (if c = .duplicate then 0 else 2)

/-! ## The rejoin -/

/-- The frame unit on entry to LISTEN by a rejoin (R19, R30). The table of R19 has a line that reads high and one that
reads low; while FRM has no qualified level yet neither timer starts, and the first qualified level starts one (log
23). -/
def FrameUnit.rejoin (f : FrameUnit) (byStuck : Bool) : FrameUnit :=
  { f.leaveBarrier with
    ownEnd := false
    armed := false
    fellInListen := false
    declared := byStuck
    quietTimer := if !byStuck && f.filter.level == some true then Timer.started else Timer.stopped
    stuckTimer := if !byStuck && f.filter.level == some false then Timer.started else Timer.stopped }

/-- The phase generator at a rejoin (R31). -/
def PhaseGenerator.rejoin (g : PhaseGenerator) : PhaseGenerator :=
  { g.stop with rank := none, nActive := none, owedCut := false, owedPoint := false }

/-- The station controller at a rejoin (R32, R104). -/
def Controller.rejoin (c : Controller) : Controller :=
  { c.calm with
    state := .listen
    decided := none
    faultCause := none
    announce := 0
    haltWord := false
    bias := true }

/-- A current conversion in progress at a rejoin completes and its result is discarded (R33, R135). -/
def Conversion.rejoin (c : Conversion) : Conversion :=
  { c with discard := c.discard || c.channel == .isns }

/-- The measurement unit at a rejoin (R33, R138, R144). -/
def MeasurementUnit.rejoin (m : MeasurementUnit) : MeasurementUnit :=
  { m.leaveActive with
    conv := m.conv.map Conversion.rejoin
    share := 0
    accSum := 0
    accCount := 0
    lastMax := 0
    pace := Timer.started
    freeFrames := 0 }

/-- The rejoin (R30 to R33). The roster unit stays empty until the station's next word close. R32 names a close in
CHECK, the close that follows an entry to CHECK; a station that passes through CHECK to ASIDE makes its next close
there, and R75 has the roster unit take it (log 24). -/
def State.rejoin (s : State) (byStuck : Bool) : State :=
  (((((s.setFrame (s.frame.rejoin byStuck)).setExch s.exch.cut).setGen s.gen.rejoin).setRoster
    RosterUnit.emptied).setCtl s.ctl.rejoin).setMeas s.meas.rejoin

/-! ## START and the entry to CHECK -/

/-- START takes effect (R80, R138): the station enters LISTEN and paces housekeeping by its own timer. Every
other block stands at its reset value in SETUP. -/
def State.startStation (s : State) : State :=
  if s.ctl.state = .setup then
    (s.setCtl { s.ctl with state := .listen }).setMeas { s.meas with pace := Timer.started }
  else s

/-- The entry to CHECK from LISTEN (R58, R82, R138), and at that instant to ASIDE if a cause is present (R85). -/
def State.startCheck (s : State) : State :=
  let entered :=
    (((s.setFrame { s.frame.leaveListen with markThis := false, markLast := false }).setRoster
      RosterUnit.emptied).setCtl { s.ctl.calm with state := .check, decided := none }).setMeas
      { s.meas with pace := Timer.stopped }
  if s.ctl.causes.isEmpty then entered else entered.enterAside

/-- The station starts taking part and pulls FRM (R10), with the given index. -/
def FrameUnit.joinBarrier (f : FrameUnit) (i : Fin 30) : FrameUnit :=
  { f with takingPart := true, pulling := true, index := some i, ownEnd := false, checked := false }

/-- Alignment on a mark (R23): index 0, part in the barrier, CHECK, and the word in progress begins (R26). -/
def State.align (s : State) : State :=
  ((s.setFrame (s.frame.joinBarrier 0)).setExch
    { s.exch.cleared with wordOpen := true, driven := false }).startCheck

/-- Founding (R24): index 29, counter 0, part in the barrier, CHECK; the frame belongs to no word. -/
def State.found (s : State) : State :=
  ((s.setFrame { s.frame.joinBarrier 29 with counter := 0 }).setExch
    { s.exch.cleared with driven := false }).startCheck

/-! ## The halt -/

/-- The entry to HOLD (R163); no decided state can be pending then. -/
def State.enterHold (s : State) : State :=
  let wasCold := s.ctl.state == .parked || s.ctl.state == .warming
  s.stopSwitching.setCtl
    { s.ctl with
      state := .hold
      decided := none
      holdCount := s.port.config.holdWords.toNat
      shedRun := 0
      warmCount := 0
      cold := wasCold
      bias := s.ctl.bias && !wasCold }

/-- A halt is read at the bit time of frame 0 (R162, R166, R169). -/
def State.readHalt (s : State) : State :=
  let seen := s.raise .haltSeen
  match s.ctl.state with
  | .active | .shed | .parked | .warming => seen.enterHold
  | .hold => seen.setCtl { s.ctl with holdCount := s.port.config.holdWords.toNat }
  | _ => seen

/-! ## Taking a decided state -/

/-- The entry to a state decided at a close, or to the state a warm-up ends in (R78, R82, R83, R102 to R105,
R165). Only SHED lets a pulse in flight run on (R123); in CHECK, PARKED and WARMING both gates are off (R126). -/
def State.enterDecision (s : State) (d : Decision) : State :=
  match d with
  | .check => s.stopSwitching.setCtl { s.ctl.calm with state := .check, decided := none }
  | .active =>
    (s.setGen { s.gen with ramp := 0, duty := 0, ocRun := 0 }).setCtl
      { s.ctl.calm with state := .active, decided := none }
  | .shed =>
    ((s.setGen s.gen.rest).setMeas s.meas.leaveActive).setCtl
      { s.ctl.calm with state := .shed, decided := none }
  | .parked =>
    s.stopSwitching.setCtl { s.ctl.calm with state := .parked, decided := none, bias := false }
  | .warming =>
    s.stopSwitching.setCtl { s.ctl.calm with state := .warming, decided := none, bias := true }

/-- The decided state, if any, is taken (R78). -/
def State.takeDecided (s : State) : State :=
  match s.ctl.decided with
  | some d => s.enterDecision d
  | none => s

end Sys2Proof.Machine
end

