-- ==== Sys2Proof/Machine/Census.lean ====
section
/-! DEFINITION. The roster unit's work at a word close (R59 to R68) and the local phase request (R97, R98). -/

namespace Sys2Proof.Machine

/-- Steps 1 and 2 of R68: the observed map, then the candidate and its agreement count (R59, R60). -/
def RosterUnit.takeMap (r : RosterUnit) (map : CodeSet) (depth : Nat) : RosterUnit :=
  if map = r.candidate then { r with observed := map, agree := min depth (r.agree + 1) }
  else { r with observed := map, candidate := map, agree := 1 }

/-- The acceptance test (R61). -/
def RosterUnit.accepts (r : RosterUnit) (depth : Nat) : Bool :=
  r.agree == depth && r.candidate != r.accepted

/-- A roster change (R61, R63, R64). -/
def RosterUnit.change (r : RosterUnit) (code : Nat) : RosterUnit :=
  { r with accepted := r.candidate, checkIndex := 0, rank := rankIn r.candidate code }

/-- A close without a roster change advances the check index, from 15 to 0 (R63). -/
def RosterUnit.advance (r : RosterUnit) : RosterUnit := { r with checkIndex := r.checkIndex + 1 }

/-- Steps 6 and 7 of R68: N_active (R66), then the active-set test (R67); the sent check bit is cleared at
each close (R74). -/
def RosterUnit.conclude (r : RosterUnit) (code : Nat) : RosterUnit :=
  let n := min r.nReq (codeCount r.accepted)
  { r with
    nActive := n
    inSet := hasCode r.accepted code && (match r.rank with | some k => decide (k < n) | none => false)
    sentCheck := none }

/-- The roster unit takes the record of an undamaged close (R68); the Bool tells of a roster change. -/
def RosterUnit.takeWord (r : RosterUnit) (map : CodeSet) (phase : BitVec 3) (depth code : Nat) :
    RosterUnit × Bool :=
  let counted := r.takeMap map depth
  if counted.accepts depth then
    (({ counted.change code with nReq := phase.toNat + 1 }).conclude code, true)
  else
    (({ counted.advance with nReq := phase.toNat + 1 }).conclude code, false)

/-- The roster unit takes the record of a damaged close (R62). -/
def RosterUnit.takeDamaged (r : RosterUnit) (code : Nat) : RosterUnit := r.advance.conclude code

/-- 1 plus the number of thresholds, each lowered by `hyst` but not below 0, that the demand meets (R97). -/
def phaseCount (sheds : List Nat) (hyst demand : Nat) : Nat :=
  1 + (sheds.filter (fun t => decide (t - hyst ≤ demand))).length

/-- The local phase request after a close (R97, R98): 1 when there is no present demand. -/
def nextRequest (c : ConfigRecord) (valid : Bool) (demand request : Nat) : Nat :=
  let up := phaseCount (shedThresholds c) 0 demand
  let down := phaseCount (shedThresholds c) c.shedHyst.toNat demand
  if !valid then 1
  else if request < up then up
  else if down < request then down
  else request

end Sys2Proof.Machine
end

