-- ==== Sys2Proof/Machine/Housekeeping.lean ====
section
/-! DEFINITION. The converter, its arbiter, the housekeeping queue and its pacing (R133 to R142). -/

namespace Sys2Proof.Machine

/-- A conversion of a channel starts at 0 (R133). -/
def Conversion.begin (ch : Channel) : Conversion := ⟨ch, 0, 0, false⟩

/-- An idle converter starts the head of a queue that is not empty (R140). -/
def MeasurementUnit.startNext (m : MeasurementUnit) : MeasurementUnit :=
  match m.conv, m.queue with
  | none, ch :: _ => { m with conv := some (Conversion.begin ch) }
  | _, _ => m

/-- A housekeeping request appends each of TSNS and VSNS that is not queued (R139). -/
def MeasurementUnit.request (m : MeasurementUnit) : MeasurementUnit :=
  ({ m with queue := m.queue ++ [Channel.tsns, Channel.vsns].filter (fun ch => !m.queue.contains ch) }).startNext

/-- A housekeeping request finds a channel queued (R139). -/
def MeasurementUnit.requestLate (m : MeasurementUnit) : Bool :=
  m.queue.contains .tsns || m.queue.contains .vsns

/-- One step of the housekeeping tally, with the request it may bring (R137, R138, R139). -/
def State.stepTally (s : State) : State :=
  if s.port.config.hkWords.toNat ≤ s.meas.tally + 1 then
    ((s.setMeas { s.meas with tally := 0 }.request)).raiseIf s.meas.requestLate .hkLate
  else s.setMeas { s.meas with tally := s.meas.tally + 1 }

/-- A current request (R141, R142): it takes an idle converter, or abandons a housekeeping conversion, whose
entry stays at the head; it is dropped when a current conversion is in progress. -/
def MeasurementUnit.requestCurrent (m : MeasurementUnit) : MeasurementUnit :=
  match m.conv with
  | some c => if c.channel = .isns then m else { m with conv := some (Conversion.begin .isns) }
  | none => { m with conv := some (Conversion.begin .isns) }

end Sys2Proof.Machine
end

