-- ==== Sys2Proof/Machine/Close.lean ====
section
/-! DEFINITION. The word close (R47 to R53): the record, the roster unit, the station controller, the measurement
unit and the history, in that order. -/

namespace Sys2Proof.Machine

/-- What the record says before the roster unit and the controller have taken it (R48, R50). Won is the contending
flag as the bit time of frame 29 leaves it (R45, R46, R48; log 18). -/
def ExchangeUnit.record (e : ExchangeUnit) : WordRecord where
  wordNumber := e.wordNumber + 1
  damaged := e.damaged
  halt := e.halt.getD .zero
  observedMap := if e.damaged then none else some (presenceMap e.presence)
  phaseResult := if e.damaged then none else some (fieldResult 3 e.phase.bits)
  currentMax := if e.damaged then none else some (fieldResult 10 e.current.bits)
  ownShare := if e.current.contended then e.current.value else none
  won := if e.current.contended then some e.current.contending else none
  rosterAfter := 0
  stateAfter := .setup

/-- The roster unit takes the record of a close (R68), of every close and in every state that makes one (R75), the
first closes in ASIDE or FAULT after a rejoin included (log 24). -/
def State.closeRoster (s : State) (r : WordRecord) : State :=
  match r.observedMap, r.phaseResult with
  | some map, some phase =>
    let taken := s.roster.takeWord map phase s.port.config.rosterDepth.toNat s.code
    (s.setRoster taken.1).raiseIf taken.2 .rosterChange
  | _, _ => s.setRoster (s.roster.takeDamaged s.code)

/-- L is recomputed at every close (R96). -/
def State.closeRequest (s : State) : State :=
  s.setCtl
    { s.ctl with request := nextRequest s.port.config s.dmd.valid s.dmd.lastGood.toNat s.ctl.request }

/-- The shed-run after a close made in SHED out of the set (R101). -/
def Controller.nextShedRun (c : Controller) : Nat := min 255 (c.shedRun + 1)

/-- The decided state of a close is set to `d`. -/
def State.setDecided (s : State) (d : Option Decision) : State := s.setCtl { s.ctl with decided := d }

/-- A close in CHECK (R71): the slot test of an undamaged word. -/
def State.closeCheck (s : State) (damaged : Bool) : State :=
  if damaged then s.setDecided none
  else if hasCode s.roster.observed s.code then s.declareFault .duplicate
  else s.setCtl { s.ctl with decided := some .shed, shedRun := 0 }

/-- A close in SHED (R100, R101). -/
def State.closeShed (s : State) : State :=
  if s.roster.inSet then s.setDecided (some .active)
  else
    let run := s.ctl.nextShedRun
    let park := s.port.config.parkWords.toNat
    s.setCtl
      { s.ctl with
        shedRun := run
        decided := if 0 < park ∧ run = park then some .parked else none }

/-- A close in HOLD (R165). -/
def State.closeHold (s : State) : State :=
  let left := s.ctl.holdCount - 1
  s.setCtl
    { s.ctl with
      holdCount := left
      decided := if left = 0 then some (if s.ctl.cold then .parked else .shed) else none }

/-- A close in ASIDE (R87, R58): with no cause present the station decides CHECK and the roster unit is
emptied. -/
def State.closeAside (s : State) : State :=
  if s.ctl.causes.isEmpty then (s.setRoster RosterUnit.emptied).setDecided (some .check) else s.setDecided none

/-- The station controller's state decision at a close (R71, R87, R100, R165). A close that takes a WARMING station out
of the set abandons its warm-up (R107); the warm-up count stays through the close and becomes 0 at the entry to PARKED
at the next frame 0 start (R105), or at whatever entry comes before it: the model's choice (log 28). -/
def State.closeState (s : State) (damaged : Bool) : State :=
  match s.ctl.state with
  | .check => s.closeCheck damaged
  | .active => s.setDecided (if s.roster.inSet then none else some .shed)
  | .shed => s.closeShed
  | .parked => s.setDecided (if s.roster.inSet then some .warming else none)
  | .warming => s.setDecided (if s.roster.inSet then none else some .parked)
  | .hold => s.closeHold
  | .aside => s.closeAside
  | .setup | .listen | .fault => s.setDecided none

/-- The trim after a close made in ACTIVE (R145). -/
def nextTrim (c : ConfigRecord) (trim : Nat) (r : WordRecord) : Nat :=
  match r.currentMax, r.ownShare, r.won with
  | some top, some own, some won =>
    if won then trim - c.trimStep.toNat
    else if own.toNat + c.shareBand.toNat < top.toNat then
      min c.trimLimit.toNat (trim + c.trimStep.toNat)
    else trim
  | _, _, _ => trim

/-- The average of the accumulator, 0 when it counts none (R143). -/
def shareOf (sum count : Nat) : Reading := BitVec.ofNat 10 (sum / count)

/-- The measurement unit's trim and share-limit run at a close (R145, R147). -/
def State.closeTrim (s : State) (r : WordRecord) : State :=
  if s.ctl.state = .active then
    let trim := nextTrim s.port.config s.meas.trim r
    let run := if trim = s.port.config.trimLimit.toNat then s.meas.limitRun + 1 else 0
    (s.setMeas { s.meas with trim := trim, limitRun := if 8 ≤ run then 0 else run }).raiseIf
      (8 ≤ run) .shareLimit
  else s

/-- The share value, the accumulator, share-valid and the last current max at a close (R143, R144). -/
def State.closeShare (s : State) (r : WordRecord) : State :=
  s.setMeas
    { s.meas with
      share := shareOf s.meas.accSum s.meas.accCount
      accSum := 0
      accCount := 0
      shareValid := s.meas.wholeWord
      lastMax := r.currentMax.getD s.meas.lastMax }

/-- The state a record shows after its close (R49). -/
def Controller.stateAfter (c : Controller) : StationState :=
  match c.decided with
  | some .check => .check
  | some .active => .active
  | some .shed => .shed
  | some .parked => .parked
  | some .warming => .warming
  | none => c.state

/-- The history appends a record, dropping the oldest when eight are held (R182); a READ_HISTORY in progress
then holds one returned record fewer (R183). -/
def PortUnit.append (p : PortUnit) (r : WordRecord) : PortUnit :=
  if 8 ≤ p.history.length then
    { p with
      history := p.history.drop 1 ++ [r]
      txn := p.txn.map (fun t => { t with returned := t.returned - 1 }) }
  else { p with history := p.history ++ [r] }

/-- The completed record goes to the history (R49, R51, R182). -/
def State.closeHistory (s : State) (r : WordRecord) : State :=
  s.setPort
    (s.port.append { r with rosterAfter := s.roster.accepted, stateAfter := s.ctl.stateAfter })

/-- The exchange unit and the mark-error memory after a close (R28, R42, R47). -/
def State.closeExchange (s : State) : State :=
  (s.setExch { s.exch.cleared with wordNumber := s.exch.wordNumber + 1 }).setFrame
    { s.frame with markLast := s.frame.markThis, markThis := false }

/-- The word close (R47): the roster unit takes the record first, the controller next, then the measurement unit,
whose housekeeping comes last (R137), then the history. -/
def State.closeWord (s : State) : State :=
  let r := s.exch.record
  let closed := (s.closeExchange.raiseIf r.damaged .damagedWord).closeRoster r
  let decided := closed.closeRequest.closeState r.damaged
  ((decided.closeTrim r).closeShare r).stepTally.closeHistory r

end Sys2Proof.Machine
end

