-- ==== Sys2Proof/Machine/WordBits.lean ====
section
/-! DEFINITION. The bits of the exchange word: what the station presents at a drive point, and what a judged bit
does (R34 to R46, R55, R56, R73, R161). -/

namespace Sys2Proof.Machine

/-! ## The drive point -/

/-- A field opens for a contender with its value latched (R43). -/
def Field.openWith {w : Nat} (value : BitVec w) : Field w := ⟨true, true, some value, []⟩

/-- A contender that has left the state it contended in stops at this drive point (R46). -/
def Field.stopUnless {w : Nat} (f : Field w) (still : Bool) : Field w :=
  { f with contending := f.contending && still }

/-- The phase field at a drive point (R43, R46): it opens in frame 17 for a member, with L less one. -/
def State.drivePhase (s : State) (i : Nat) : Field 3 :=
  if i = 17 then
    (if s.ctl.state.isMember then Field.openWith (BitVec.ofNat 3 (s.ctl.request - 1)) else s.exch.phase)
  else s.exch.phase.stopUnless s.ctl.state.isMember

/-- The current field at a drive point (R43, R46, R144): it opens in frame 20 for a station that is ACTIVE with
share-valid true, with its share value. -/
def State.driveCurrent (s : State) (i : Nat) : Field 10 :=
  if i = 20 then
    (if s.ctl.state = .active ∧ s.meas.shareValid then Field.openWith s.meas.share else s.exch.current)
  else s.exch.current.stopUnless (s.ctl.state == .active)

/-- The bit of the latched value that a contender drives (R44), `k` being the bit's place in the value. -/
def Field.bitAt {w : Nat} (f : Field w) (k : Nat) : Bool :=
  f.contending && (f.value.getD 0).getLsbD k

/-- The check bit the roster unit presents in the station's own check frame (R56). -/
def State.checkBit (s : State) : SentCheck :=
  let own := s.ctl.state.isMember && hasCode s.roster.accepted s.code
  ⟨own && s.unitNumber.getLsbD s.roster.checkIndex.toNat, own⟩

/-- The presence frame of the station's own slot (R35). -/
def State.presenceFrame (s : State) : Nat := 1 + 2 * s.code

/-- The check frame of the station's own slot (R35). -/
def State.checkFrame (s : State) : Nat := 2 + 2 * s.code

/-- What the supplier of frame `i` presents, the fields having been opened for it (R35, R36). -/
def State.presented (s : State) (i : Nat) : Bool :=
  if i = 0 then s.ctl.state == .fault && s.ctl.haltWord
  else if i = s.presenceFrame then s.ctl.state.isMember
  else if i = s.checkFrame then s.checkBit.bit
  else if i < 17 then false
  else if i < 20 then s.exch.phase.bitAt (19 - i)
  else s.exch.current.bitAt (29 - i)

/-- The fields at the drive point of frame `i`. -/
def State.openFields (s : State) (i : Nat) : State :=
  if 17 ≤ i ∧ i < 20 then s.setExch { s.exch with phase := s.drivePhase i }
  else if 20 ≤ i then s.setExch { s.exch with current := s.driveCurrent i }
  else s

/-- The roster unit keeps the value presented in the own check frame as the sent check bit (R56). -/
def State.keepCheckBit (s : State) (i : Nat) : State :=
  if i = s.checkFrame then s.setRoster { s.roster with sentCheck := some s.checkBit } else s

/-- The drive point of frame `i` (R34): in a frame of no word (R24) SHR is released. -/
def State.driveFrame (s : State) (i : Nat) : State :=
  if s.exch.wordOpen then
    let ready := (s.openFields i).keepCheckBit i
    ready.setExch { ready.exch with drive := ready.presented i, driven := true }
  else s.setExch { s.exch with drive := false, driven := true }

/-! ## The bit time -/

/-- A field takes the bit of one of its frames (R44): a contender goes on only if the bit is settled and equal
to the bit sent, and if it `holds` the state it contended in (R46). -/
def Field.takeBit {w : Nat} (f : Field w) (r : ReadBit) (sent holds : Bool) : Field w :=
  { f with bits := f.bits ++ [r], contending := f.contending && r.agrees sent && holds }

/-- At the bit time of the phase field's last frame no drive point of the field is left to stop at, so a contender that
is no member any more is not still contending from here (R45, R46; log 18). -/
def State.holdsPhase (s : State) (i : Nat) : Bool := i != 19 || s.ctl.state.isMember

/-- The same for the current field: a contender that has left ACTIVE by the bit time of frame 29 is not still
contending and has not won (R45, R46; log 18). -/
def State.holdsCurrent (s : State) (i : Nat) : Bool := i != 29 || s.ctl.state == .active

/-- The duplicate check among members (R73): sent 0 as its unit-number bit and read a settled 1. -/
def State.seesDuplicate (s : State) (r : ReadBit) : Bool :=
  s.ctl.state.isMember && s.roster.sentCheck == some ⟨false, true⟩ && r == .one

/-- The bit of frame `i` enters the word in progress and goes to the block that acts on it (R41). -/
def State.enterBit (s : State) (i : Nat) (r : ReadBit) : State :=
  if i = 0 then
    let entered := s.setExch { s.exch with halt := some r }
    if r = .zero then entered else entered.readHalt
  else if i < 17 then
    if i % 2 = 1 then s.setExch { s.exch with presence := s.exch.presence ++ [r] }
    else if i = s.checkFrame ∧ s.seesDuplicate r then s.declareFault .duplicate
    else s
  else if i < 20 then s.setExch { s.exch with phase := s.exch.phase.takeBit r s.exch.drive (s.holdsPhase i) }
  else
    s.setExch
      { s.exch with
        current := s.exch.current.takeBit r s.exch.drive (s.holdsCurrent i)
        closeDue := s.exch.closeDue || i == 29 }

/-- The bit time of frame `i` with its judged bit (R39, R41): an unsettled bit damages the word. -/
def State.bitTime (s : State) (i : Nat) (r : ReadBit) : State :=
  (s.setExch { s.exch with damaged := s.exch.damaged || r == .unsettled }).enterBit i r

/-- The station samples SHR in this frame: aligned, taking part, and a word in progress (R38). -/
def State.sampling (s : State) : Bool := s.frame.takingPart && s.exch.wordOpen

/-- The index of the frame in progress, as a number. -/
def State.indexNat (s : State) : Nat :=
  match s.frame.index with
  | some i => i.val
  | none => 0

end Sys2Proof.Machine
end

