-- ==== Sys2Proof/Machine/FrameLine.lean ====
section
/-! DEFINITION. The commands of the frame line: FRAME_START, FRAME_FALLING_EDGE, MARK_CLASSIFIED, PULL_POINT, OWN_END,
STUCK, LISTEN_STUCK_DECLARED, FOUNDING, FREE_RUN_FRAME, FRM_FIRST_QUALIFIED_LEVEL. Each has a predicate that says when its
event can take place; elsewhere the command changes nothing (log 7). -/

namespace Sys2Proof.Machine

/-- The next state, as an outcome. -/
abbrev done (s : State) : Host.Outcome State Fault Refusal := .next s

/-- An event that takes place only where its condition holds. -/
def whenDue (b : Bool) (s after : State) : Host.Outcome State Fault Refusal :=
  .next (if b then after else s)

/-- The frame unit's filter with the qualified level set to `v`. -/
def State.qualifyFrm (s : State) (v : Bool) : State :=
  s.setFrame { s.frame with filter := Filter.settle 2 v }

/-! ## FRAME_START -/

/-- A rising edge of FRM can be taken: the filter runs and the qualified level is low (R1). -/
def State.riseCan (s : State) : Bool := s.started && s.frame.filter.level == some false

/-- A rising edge in LISTEN (R2, R20, R21, R22). -/
def FrameUnit.listenRise (f : FrameUnit) : FrameUnit :=
  { f with
    counter := 0
    classed := .opened
    quietTimer := Timer.started
    stuckTimer := Timer.stopped
    armed := f.fellInListen && !f.declared
    declared := false }

/-- The wait-run after a wait (R14), before its restart at 8. -/
def waitRunAfter (wait lagMax run : Nat) : Nat := if lagMax < wait then run + 1 else 0

/-- The length of the frame just ended is latched, and the wait is taken if the station released at its own end
in it (R3, R11, R13, R14). -/
def State.takeWait (s : State) : State :=
  let latched := { s.frame with lastLength := s.frame.counter }
  if s.frame.ownEnd then
    let wait := s.frame.counter - s.frameLen
    let run := waitRunAfter wait s.port.config.lagMax.toNat s.frame.waitRun
    (s.setFrame { latched with lastWait := wait, waitRun := if 8 ≤ run then 0 else run }).raiseIf
      (8 ≤ run) .groupWait
  else s.setFrame latched

/-- The frame counter and the frame's own marks restart, and the index advances, from 29 to 0 (R3). A pull made at the
very count of this edge, which neither R8 nor R6 speaks of, stands into the new frame: the model's choice (log 27). -/
def FrameUnit.restart (f : FrameUnit) (i : Fin 30) : FrameUnit :=
  { f with
    counter := 0
    ownEnd := false
    stuckTimer := Timer.stopped
    index := some (i + 1)
    classed := .opened
    checked := true }

/-- The new frame of the exchange unit: no samples, no drive point yet; frame 0 begins a word (R26, R38). -/
def ExchangeUnit.newFrame (e : ExchangeUnit) (first : Bool) : ExchangeUnit :=
  { e with samples := [], driven := false, wordOpen := e.wordOpen || first }

/-- A frame start raises the ramp of an ACTIVE station (R116) and gives a new frame its lead point and on-point. -/
def State.rampRise (s : State) : State :=
  s.setGen
    { s.gen with
      leadTaken := false
      onTaken := false
      ramp :=
        if s.ctl.state = .active then min s.dutyMax (s.gen.ramp + s.port.config.ramp.toNat)
        else s.gen.ramp }

/-- A frame start counts toward a warm-up in progress (R105). -/
def State.warmRise (s : State) : State :=
  if s.ctl.state = .warming then
    s.setCtl { s.ctl with warmCount := min s.port.config.warmFrames.toNat (s.ctl.warmCount + 1) }
  else s

/-- A frame 0 start takes the decided state, opens an announced word (R78, R90) and swaps the schedule (R112); any
other frame start is in no announced frame 0. -/
def State.wordStart (s : State) (first : Bool) : State :=
  if first then
    let taken := s.takeDecided
    (taken.setCtl
      { taken.ctl with haltWord := taken.ctl.state == .fault && decide (0 < taken.ctl.announce) }).swapSchedule
  else s.setCtl { s.ctl with haltWord := false }

/-- The frame start of an aligned station whose frame before had index `i` (R3). -/
def State.startFrame (s : State) (i : Fin 30) : State :=
  let waited := s.takeWait
  let counted :=
    ((waited.setFrame (waited.frame.restart i)).setExch (waited.exch.newFrame (i + 1 == 0))).rampRise.warmRise
  (counted.wordStart (i + 1 == 0)).resumeLg

/-- A frame cut short before its samples are complete is judged at the frame start that ends it, as unsettled
(R40). -/
def State.judgeCutFrame (s : State) : State :=
  if s.sampling && decide (s.exch.samples.length < 4) then s.bitTime s.indexNat .unsettled else s

/-- A close that is due is taken before the frame start (R40). -/
def State.takeDueClose (s : State) : State := if s.exch.closeDue then s.closeWord else s

/-- A station in FAULT with cause DUPLICATE takes no part beyond the frame in progress (R9). -/
def State.withdrawing (s : State) : Bool :=
  s.ctl.state == .fault && s.ctl.faultCause == some .duplicate

/-- A rising edge that the frame counter does not follow still opens a high interval (R11). -/
def State.openHigh (s : State) : State := s.setFrame { s.frame with classed := .opened }

/-- The frame start of a station that takes part (R3, R9, R40). -/
def State.alignedRise (s : State) : State :=
  let closed := s.judgeCutFrame.takeDueClose
  match closed.frame.index with
  | some i => if closed.withdrawing then closed.openHigh.endPart else closed.startFrame i
  | none => closed

/-- FRAME_START (R3): a qualified rising edge of FRM. -/
def execFrameStart (s : State) : Host.Outcome State Fault Refusal :=
  let high := s.qualifyFrm true
  whenDue s.riseCan s
    (if s.ctl.state = .listen then high.setFrame high.frame.listenRise
     else if s.frame.takingPart then high.alignedRise
     else high.openHigh)

/-! ## Classification -/

/-- A mark error (R27, R28, R29): flag, damage, memory, and the rejoin at the second of two consecutive words,
which a station in FAULT does not make. -/
def State.markError (s : State) : State :=
  let noted :=
    ((s.raise .markError).setExch { s.exch with damaged := true }).setFrame { s.frame with markThis := true }
  if s.frame.markLast && s.ctl.state != .fault then noted.rejoin false else noted

/-- The high interval is classified as normal: an error in a checked frame 0 (R12, R27). -/
def State.classifyNormal (s : State) : State :=
  let classed := s.setFrame { s.frame with classed := .normal }
  if s.frame.takingPart && s.frame.checked && s.frame.index == some 0 then classed.markError else classed

/-- The high interval is classified as a mark: alignment of an armed listener (R23), an error in a checked frame
1 to 29 (R12, R27). -/
def State.classifyMark (s : State) : State :=
  let classed := s.setFrame { s.frame with classed := .mark }
  if s.ctl.state = .listen then (if s.frame.armed then classed.align else classed)
  else if s.frame.takingPart && s.frame.checked && s.frame.index != some 0 then classed.markError
  else classed

/-- The station follows the line: LISTEN, or a part in the barrier (R2). -/
def State.follows (s : State) : Bool := s.ctl.state == .listen || s.frame.takingPart

/-- The frame counter has reached 32 with FRM high and the frame not yet classified (R12). -/
def State.markDue (s : State) : Bool :=
  s.follows && s.frame.classed == .opened && s.frame.counter == 32 && s.frame.filter.level == some true

/-- MARK_CLASSIFIED (R12). -/
def execMarkClassified (s : State) : Host.Outcome State Fault Refusal :=
  whenDue s.markDue s s.classifyMark

/-! ## FRAME_FALLING_EDGE -/

/-- A falling edge of FRM can be taken (R1). -/
def State.fallCan (s : State) : Bool := s.started && s.frame.filter.level == some true

/-- The last high interval is latched at a falling edge that follows a rising edge (R11): the frame counter's value
at the fall. So it is too for the first fall of a station that came back from FAULT with FRM high, whose rise fell
while the counter did not follow FRM and whose counter runs on (R2, R30): R11 taken at its word (log 17). -/
def State.latchHigh (s : State) : State :=
  if s.frame.classed = .opened ∨ s.frame.classed = .mark then
    s.setFrame { s.frame with lastHigh := s.frame.counter }
  else s

/-- A falling edge in LISTEN (R20, R21, R22). -/
def FrameUnit.listenFall (f : FrameUnit) : FrameUnit :=
  { f with
    quietTimer := Timer.stopped
    stuckTimer := Timer.started
    declared := false
    fellInListen := true }

/-- The fall itself: the latch (R11), the normal classification of a frame not yet classified (R12), and in LISTEN
the timers (R20, R21, R22). The level falls before the classification, so a rejoin finds the line low (R22). -/
def State.fall (s : State) : State :=
  let fell := s.latchHigh.qualifyFrm false
  let judged := if fell.frame.classed = .opened then fell.classifyNormal else fell
  if s.ctl.state = .listen then judged.setFrame judged.frame.listenFall else judged

/-- The falling edge of a station that follows the line. R12 takes a fall as normal only while the counter stands
below 32; at 32 the mark classification of that count is made first (R23, log 11). -/
def State.followFall (s : State) : State :=
  if s.frame.classed = .opened ∧ 32 ≤ s.frame.counter then s.classifyMark.fall else s.fall

/-- FRAME_FALLING_EDGE (R11). -/
def execFrameFallingEdge (s : State) : Host.Outcome State Fault Refusal :=
  whenDue s.fallCan s (if s.follows then s.followFall else s.qualifyFrm false)

/-! ## The barrier -/

/-- The pull point of the frame in progress: 48 in frame 0, 16 in frames 1 to 29 (R5). -/
def FrameUnit.pullPoint (f : FrameUnit) : Nat := if f.index = some 0 then 48 else 16

/-- The frame counter of a station that takes part has reached its pull point and it does not pull (R5). -/
def State.pullDue (s : State) : Bool :=
  s.frame.takingPart && s.frame.counter == s.frame.pullPoint && !s.frame.pulling

/-- PULL_POINT (R5). -/
def execPullPoint (s : State) : Host.Outcome State Fault Refusal :=
  whenDue s.pullDue s (s.setFrame { s.frame with pulling := true })

/-- The frame counter of a station that takes part has reached FRAME_LEN (R6). -/
def State.ownEndDue (s : State) : Bool :=
  s.frame.takingPart && s.frame.counter == s.frameLen && !s.frame.ownEnd

/-- The own-end flag is set and the line released (R6). -/
def State.releaseFrm (s : State) : State := s.setFrame { s.frame with ownEnd := true, pulling := false }

/-- The stuck timer starts at the release if the line then reads low (R15). -/
def State.startStuck (s : State) : State :=
  if s.frame.filter.level = some false then s.setFrame { s.frame with stuckTimer := Timer.started } else s

/-- The frame in progress is an announced frame 0 (R90). -/
def State.announcedFrame (s : State) : Bool :=
  s.ctl.state == .fault && s.ctl.haltWord && s.frame.index == some 0

/-- The own end of an announced frame 0 (R90): one announce word fewer, and at 0 the part ends. -/
def State.announceEnd (s : State) : State :=
  let fewer := s.setCtl { s.ctl with announce := s.ctl.announce - 1, haltWord := false }
  if s.ctl.announce ≤ 1 then fewer.endPart else fewer.startStuck

/-- OWN_END (R6): with the ends of a part in the barrier of R9. -/
def execOwnEnd (s : State) : Host.Outcome State Fault Refusal :=
  whenDue s.ownEndDue s
    (if s.withdrawing then s.releaseFrm.endPart
     else if s.announcedFrame then s.releaseFrm.announceEnd
     else s.releaseFrm.startStuck)

/-! ## A line held low, and founding -/

/-- The stuck timer of a station that takes part has reached 4 × FRAME_LEN (R16). -/
def State.stuckDue (s : State) : Bool :=
  s.frame.takingPart && s.frame.stuckTimer.reached (4 * s.frameLen)

/-- A STUCK declaration in FAULT (R17): announcing and the part in the barrier end, the fault stays. -/
def State.stuckInFault (s : State) : State :=
  let ended := s.endPart
  (ended.setFrame { ended.frame with ownEnd := false }).setCtl { ended.ctl with announce := 0 }

/-- STUCK (R16, R17). -/
def execStuck (s : State) : Host.Outcome State Fault Refusal :=
  let flagged := s.raise .stuck
  whenDue s.stuckDue s
    (if s.ctl.state = .fault then flagged.stuckInFault else flagged.rejoin true)

/-- The stuck timer in LISTEN has reached 4 × FRAME_LEN (R21). -/
def State.listenStuckDue (s : State) : Bool :=
  s.ctl.state == .listen && s.frame.stuckTimer.reached (4 * s.frameLen)

/-- LISTEN_STUCK_DECLARED (R21): the timer stops at its value and the low period is marked declared. -/
def execListenStuckDeclared (s : State) : Host.Outcome State Fault Refusal :=
  let flagged := s.raise .stuck
  whenDue s.listenStuckDue s
    (flagged.setFrame
      { s.frame with declared := true, stuckTimer := ⟨false, 4 * s.frameLen⟩ })

/-- The quiet time of the station: (3 + code) × FRAME_LEN (R20). -/
def State.quietTime (s : State) : Nat := (3 + s.code) * s.frameLen

/-- The quiet timer has reached the quiet time (R20). -/
def State.foundingDue (s : State) : Bool :=
  s.ctl.state == .listen && s.frame.quietTimer.reached s.quietTime

/-- FOUNDING (R24). -/
def execFounding (s : State) : Host.Outcome State Fault Refusal :=
  whenDue s.foundingDue s s.found

/-! ## The free-running counter, and the first level -/

/-- The free-running counter of a station in FAULT after announcing has run past FRAME_LEN − 1 (R2). -/
def State.freeRunDue (s : State) : Bool := s.faultEnded && decide (s.frameLen ≤ s.frame.counter)

/-- FREE_RUN_FRAME (R2, R138): the counter restarts, and thirty such frames are one nominal word. -/
def execFreeRunFrame (s : State) : Host.Outcome State Fault Refusal :=
  let restarted := s.setFrame { s.frame with counter := 0 }
  whenDue s.freeRunDue s
    (if 30 ≤ s.meas.freeFrames + 1 then (restarted.setMeas { s.meas with freeFrames := 0 }).stepTally
     else restarted.setMeas { s.meas with freeFrames := s.meas.freeFrames + 1 })

/-- The filter runs and has no level yet (R1). -/
def State.firstLevelCan (s : State) : Bool := s.started && s.frame.filter.level == none

/-- The timers of a station that entered LISTEN from SETUP start at the first qualified level (R19). -/
def FrameUnit.firstLevel (f : FrameUnit) (high : Bool) : FrameUnit :=
  { f with
    quietTimer := if high then Timer.started else Timer.stopped
    stuckTimer := if high then Timer.stopped else Timer.started }

/-- FRM_FIRST_QUALIFIED_LEVEL (R1, R19). -/
def execFrmFirstQualifiedLevel (high : Bool) (s : State) : Host.Outcome State Fault Refusal :=
  let levelled := s.qualifyFrm high
  whenDue s.firstLevelCan s
    (if s.ctl.state = .listen then levelled.setFrame (levelled.frame.firstLevel high) else levelled)

end Sys2Proof.Machine
end

