-- ==== Sys2Proof/Machine/Exchange.lean ====
section
/-! DEFINITION. The commands of the exchange word: DRIVE_POINT, BIT_TIME, WORD_CLOSE. -/

namespace Sys2Proof.Machine

/-- The frame counter of a station that takes part has reached 56, once in each frame (R34). -/
def State.driveDue (s : State) : Bool :=
  s.frame.takingPart && s.frame.counter == 56 && !s.exch.driven && s.frame.index.isSome

/-- DRIVE_POINT (R34, R36, R43, R56). -/
def execDrivePoint (s : State) : Host.Outcome State Fault Refusal :=
  whenDue s.driveDue s (s.driveFrame s.indexNat)

/-- The frame counter has reached the fourth SHR sample, the three before it being taken (R38, R41). -/
def State.bitDue (s : State) : Bool :=
  s.sampling && s.frame.counter == s.sampleAt + 6 && s.exch.samples.length == 3

/-- The fourth sample joins the three before it. -/
def State.lastSample (s : State) (x : Bool) : State :=
  s.setExch { s.exch with samples := s.exch.samples ++ [x] }

/-- BIT_TIME (R38, R39, R41, R44, R73, R162): the frame's bit is judged and goes to the block that acts on it. -/
def execBitTime (sample : Bool) (s : State) : Host.Outcome State Fault Refusal :=
  let complete := s.lastSample sample
  whenDue s.bitDue s (complete.bitTime s.indexNat (judge complete.exch.samples))

/-- The close that follows the bit of frame 29 has not been made (R47). -/
def State.closeCan (s : State) : Bool := s.frame.takingPart && s.exch.wordOpen && s.exch.closeDue

/-- WORD_CLOSE (R47). -/
def execWordClose (s : State) : Host.Outcome State Fault Refusal :=
  whenDue s.closeCan s s.closeWord

end Sys2Proof.Machine
end

