-- ==== Sys2Proof/Machine/Phase.lean ====
section
/-! DEFINITION. The commands of the phase generator: WARM_UP_COMPLETE, LEAD_POINT, ON_POINT, PULSE_END,
DEAD_TIME_RUN_OUT, OCI_ASSERT. -/

namespace Sys2Proof.Machine

/-! ## WARM_UP_COMPLETE -/

/-- The warm-up count stands at WARM_FRAMES at a frame start (R106). -/
def State.warmDue (s : State) : Bool :=
  s.ctl.state == .warming && s.frame.counter == 0 && decide (s.port.config.warmFrames.toNat ≤ s.ctl.warmCount)

/-- An entry to ACTIVE at a frame 0 start and the schedule swap of that start act as one (R112). -/
def State.swapAtFrameZero (s : State) : State := if s.frame.index = some 0 then s.swapSchedule else s

/-- WARM_UP_COMPLETE (R106): ACTIVE for a station in the set, PARKED otherwise. -/
def execWarmUpComplete (s : State) : Host.Outcome State Fault Refusal :=
  whenDue s.warmDue s
    (if s.roster.inSet then (s.enterDecision .active).swapAtFrameZero.resumeLg else s.enterDecision .parked)

/-! ## LEAD_POINT -/

/-- The frame counter of an ACTIVE station with an on-point has reached the lead point (R118). -/
def State.leadDue (s : State) : Bool :=
  match s.gen.onPoint with
  | some p => s.ctl.state == .active && !s.gen.leadTaken && s.frame.counter == leadCount p s.dead s.frameLen
  | none => false

/-- LG goes off at the lead point and the lead window opens (R118). -/
def PhaseGenerator.lead (g : PhaseGenerator) : PhaseGenerator :=
  { g.switchLgOff with leadWindow := true, leadTaken := true }

/-- LEAD_POINT (R118). -/
def execLeadPoint (s : State) : Host.Outcome State Fault Refusal :=
  whenDue s.leadDue s (s.setGen s.gen.lead)

/-! ## ON_POINT -/

/-- The duty is latched, and the lead window ends (R115, R118). -/
def PhaseGenerator.latch (g : PhaseGenerator) (duty : Nat) : PhaseGenerator :=
  { g with onTaken := true, duty := duty, leadWindow := false }

/-- OCI is asserted: its qualified level is high (R127). -/
def PhaseGenerator.ociHigh (g : PhaseGenerator) : Bool := g.oci.level == some true

/-- A pulse starts with the latched duty (R120). -/
def PhaseGenerator.startPulse (g : PhaseGenerator) : PhaseGenerator :=
  { g with hg := true, inFlight := true, remaining := g.duty, pulseDuty := g.duty, triggered := false }

/-- A truncated frame is counted, and the run declares OVERCURRENT when it reaches OC_RUN (R129, R130). -/
def State.countTruncated (s : State) : State :=
  let counted := s.setGen { s.gen with ocRun := s.gen.ocRun + 1 }
  if s.port.config.ocRun.toNat ≤ s.gen.ocRun + 1 then counted.declareFault .overcurrent else counted

/-- The pulse of an on-point whose duty is latched: skipped, not started, refused by OCI, or started (R115,
R119, R128). -/
def State.takePulse (s : State) : State :=
  if 8 ≤ s.gen.duty ∧ s.gen.clear = true then
    if s.gen.ociHigh then s.countTruncated else s.setGen s.gen.startPulse
  else s

/-- The on-point of an instant at which an entry from ACTIVE to FAULT was taken first (R92; log 20). -/
def State.pointOwed (s : State) : Bool := s.ctl.state == .fault && s.gen.owedPoint

/-- Such an on-point switches nothing (R125); a due pulse that OCI refuses at it declares OVERCURRENT as a second cause
(R92, R130). -/
def State.takeOwedPoint (s : State) : State :=
  let taken := s.setGen { s.gen with owedPoint := false }
  if s.gen.ociHigh then taken.raise .overcurrent else taken

/-- An on-point of the schedule: outside a lead window LG is on by then, also where the dead time runs out at this very
count, so an on-point that no lead point came before has no pulse (R119, R121, R122). -/
def State.takeOnPoint (s : State) : State :=
  let held := s.resumeLg
  (held.setGen (held.gen.latch s.latchedDuty)).takePulse.resumeLg

/-- ON_POINT (R92, R114, R115, R119, R121, R122, R128). -/
def execOnPoint (s : State) : Host.Outcome State Fault Refusal :=
  done
    (if s.onDue then s.takeOnPoint
     else if s.pointOwed then s.takeOwedPoint
     else s)

/-! ## PULSE_END and DEAD_TIME_RUN_OUT -/

/-- The remaining duty of a pulse in flight has reached 0 (R120). -/
def State.pulseEndDue (s : State) : Bool := s.gen.inFlight && s.gen.hg && s.gen.remaining == 0

/-- PULSE_END (R120, R129): the pulse ends whole, and the OC-run becomes 0. -/
def execPulseEnd (s : State) : Host.Outcome State Fault Refusal :=
  whenDue s.pulseEndDue s (s.setGen { s.gen.endPulse with ocRun := 0 })

/-- In ACTIVE the dead-time timer has run out, no lead window is open and both gates are off (R121). -/
def State.lgDue (s : State) : Bool :=
  s.ctl.state == .active && s.gen.deadTimer.isNone && !s.gen.leadWindow && !s.gen.hg && !s.gen.lg

/-- DEAD_TIME_RUN_OUT (R121): LG comes on. -/
def execDeadTimeRunOut (s : State) : Host.Outcome State Fault Refusal :=
  whenDue s.lgDue s (s.setGen { s.gen with lg := true })

/-! ## OCI_ASSERT -/

/-- An assertion of OCI can be taken: the filter runs and its qualified level is low (R127). -/
def State.ociCan (s : State) : Bool := s.started && s.gen.oci.level == some false

/-- The pulse that OCI meets is cut, and in ACTIVE its frame counts as truncated (R128). -/
def State.cutByOci (s : State) : State :=
  let ended := s.setGen s.gen.endPulse
  if s.ctl.state = .active then ended.countTruncated else ended

/-- OCI meets a pulse that an entry from ACTIVE to FAULT has cut at this same instant (R92; log 20). -/
def State.cutOwed (s : State) : Bool := s.ctl.state == .fault && s.gen.owedCut

/-- The truncation it would have made declares OVERCURRENT as a second cause (R92, R130). -/
def State.takeOwedCut (s : State) : State :=
  (s.setGen { s.gen with owedCut := false }).raise .overcurrent

/-- OCI_ASSERT (R92, R127, R128). -/
def execOciAssert (s : State) : Host.Outcome State Fault Refusal :=
  let high := s.setGen { s.gen with oci := Filter.settle 2 true }
  whenDue s.ociCan s
    (if s.gen.inFlight then high.cutByOci
     else if s.cutOwed then high.takeOwedCut
     else high)

end Sys2Proof.Machine
end

