-- ==== Sys2Proof/Machine/Measurement.lean ====
section
/-! DEFINITION. The commands of the measurement unit: CURRENT_TRIGGER, CONVERSION_COMPLETE, HOUSEKEEPING_PACE. -/

namespace Sys2Proof.Machine

/-! ## CURRENT_TRIGGER -/

/-- A pulse in flight has run floor(duty / 2) counts, and its trigger has not been taken (R131, R134). -/
def State.triggerDue (s : State) : Bool :=
  s.gen.inFlight && !s.gen.triggered && s.gen.remaining + s.gen.pulseDuty / 2 == s.gen.pulseDuty

/-- A pulse of 16 counts or more of an ACTIVE station asks for a current conversion (R134). -/
def State.triggerAsks (s : State) : Bool := decide (16 ≤ s.gen.pulseDuty) && s.ctl.state == .active

/-- CURRENT_TRIGGER (R134, R141, R142). -/
def execCurrentTrigger (s : State) : Host.Outcome State Fault Refusal :=
  let taken := s.setGen { s.gen with triggered := true }
  whenDue s.triggerDue s (if s.triggerAsks then taken.setMeas taken.meas.requestCurrent else taken)

/-! ## CONVERSION_COMPLETE -/

/-- The conversion timer has reached 40 (R133). -/
def State.conversionDue (s : State) : Bool :=
  match s.meas.conv with
  | some c => s.started && c.timer == 40
  | none => false

/-- An ISNS result: it joins the accumulator unless it is to be discarded (R135, R143). -/
def State.takeCurrent (s : State) (discard : Bool) (code : Reading) : State :=
  if discard then s
  else s.setMeas { s.meas with accSum := s.meas.accSum + code.toNat, accCount := s.meas.accCount + 1 }

/-- A TSNS result (R93, R148, R170): at or above TEMP_TRIP it declares OVERTEMP, and below TEMP_CLEAR it lets a
station in FAULT with cause OVERTEMP rejoin once announcing has ended. -/
def State.takeTemperature (s : State) (code : Reading) : State :=
  let kept := s.setMeas { s.meas with queue := s.meas.queue.drop 1, lastTsns := code }
  if s.port.config.tempTrip.toNat ≤ code.toNat then kept.declareFault .overtemp
  else if code.toNat < s.port.config.tempClear.toNat ∧ s.ctl.faultCause = some .overtemp ∧ s.faultEnded then
    kept.rejoin false
  else kept

/-- A VSNS result (R148, R171): below VIN_MIN it adds UNDERVOLT and sets the flag, at or above VIN_OK it removes the
cause. -/
def State.takeVoltage (s : State) (code : Reading) : State :=
  let kept := s.setMeas { s.meas with queue := s.meas.queue.drop 1, lastVsns := code }
  if code.toNat < s.port.config.vinMin.toNat then (kept.raise .undervolt).addCause .undervolt
  else if s.port.config.vinOk.toNat ≤ code.toNat then kept.removeCause .undervolt
  else kept

/-- The result of a conversion is handed on, the converter being idle (R133, R135, R148). -/
def State.takeResult (s : State) (c : Conversion) (code : Reading) : State :=
  let idled := s.setMeas { s.meas with conv := none }
  match c.channel with
  | .isns => idled.takeCurrent c.discard code
  | .tsns => idled.takeTemperature code
  | .vsns => idled.takeVoltage code

/-- The head of the queue, if any, starts (R140). -/
def State.startConversion (s : State) : State := s.setMeas s.meas.startNext

/-- CONVERSION_COMPLETE (R133, R140): the result is handed on and the next queued conversion starts. -/
def execConversionComplete (code : Reading) (s : State) : Host.Outcome State Fault Refusal :=
  whenDue s.conversionDue s
    (match s.meas.conv with
     | some c => (s.takeResult c code).startConversion
     | none => s)

/-! ## HOUSEKEEPING_PACE -/

/-- The pace timer in LISTEN has reached 30 × FRAME_LEN (R138). -/
def State.paceDue (s : State) : Bool := s.ctl.state == .listen && s.meas.pace.reached (30 * s.frameLen)

/-- HOUSEKEEPING_PACE (R138): one nominal word has passed. -/
def execHousekeepingPace (s : State) : Host.Outcome State Fault Refusal :=
  whenDue s.paceDue s ((s.setMeas { s.meas with pace := Timer.started }).stepTally)

end Sys2Proof.Machine
end

