-- ==== Sys2Proof/Machine/Demand.lean ====
section
/-! DEFINITION. The commands of the demand monitor: DMD_ACTIVE_EDGE, DMD_INACTIVE_EDGE, DMD_TIMEOUT. -/

namespace Sys2Proof.Machine

/-- The runs after a good period (R155). -/
def DemandMonitor.countGood (d : DemandMonitor) : DemandMonitor :=
  { d with goodRun := min 2 (d.goodRun + 1), badRun := 0 }

/-- The runs after a bad period (R155). -/
def DemandMonitor.countBad (d : DemandMonitor) : DemandMonitor :=
  { d with badRun := min 2 (d.badRun + 1), goodRun := 0 }

/-- The demand of a good period: floor(H × 1024 / P), or 1023 when H is P or greater (R153). -/
def demandOf (high period : Nat) : Reading :=
  if period ≤ high then 1023 else BitVec.ofNat 10 (high * 1024 / period)

/-- The passage to VALID, where the runs bring it (R157). -/
def State.passValid (s : State) : State :=
  if !s.dmd.valid && s.dmd.goodRun == 2 then
    (s.setDmd { s.dmd with valid := true }).removeCause .demandLost
  else s

/-- The passage to LOST, where the runs bring it (R156). -/
def State.passLost (s : State) : State :=
  if s.dmd.valid && s.dmd.badRun == 2 then
    ((s.setDmd { s.dmd with valid := false }).raise .demandLost).addCause .demandLost
  else s

/-- A good period with its demand (R153, R155, R157). -/
def State.goodPeriod (s : State) (demand : Reading) : State :=
  (s.setDmd { s.dmd.countGood with lastGood := demand }).passValid

/-- A bad period (R153, R154, R155, R156). -/
def State.badPeriod (s : State) : State := (s.setDmd s.dmd.countBad).passLost

/-- The period lies in the window from DMD_MIN up to DMD_MAX (R153). -/
def State.inWindow (s : State) (period : Nat) : Bool :=
  within s.port.config.dmdMin.toNat s.port.config.dmdMax.toNat period

/-- The judgement of a period (R153). -/
def State.judgePeriod (s : State) (period : Nat) : State :=
  if s.inWindow period then s.goodPeriod (demandOf s.dmd.high period) else s.badPeriod

/-- A new period begins at an active-going edge (R151). -/
def DemandMonitor.openPeriod (d : DemandMonitor) : DemandMonitor :=
  { d with filter := Filter.settle 4 true, capture := 0, cond := .opened, timeouts := 0 }

/-- An active-going edge can be taken (R150). -/
def State.activeCan (s : State) : Bool := s.started && s.dmd.filter.level == some false

/-- DMD_ACTIVE_EDGE (R151, R153). -/
def execDmdActiveEdge (s : State) : Host.Outcome State Fault Refusal :=
  let judged :=
    if s.dmd.cond = .opened then (s.setDmd { s.dmd with period := s.dmd.capture }).judgePeriod s.dmd.capture
    else s
  whenDue s.activeCan s (judged.setDmd judged.dmd.openPeriod)

/-- An inactive-going edge can be taken (R150). -/
def State.inactiveCan (s : State) : Bool := s.started && s.dmd.filter.level == some true

/-- DMD_INACTIVE_EDGE (R152): the high time is latched. -/
def execDmdInactiveEdge (s : State) : Host.Outcome State Fault Refusal :=
  whenDue s.inactiveCan s
    (s.setDmd { s.dmd with filter := Filter.settle 4 false, high := s.dmd.capture })

/-- The capture counter has reached k × DMD_MAX + 1, k − 1 timeouts having been made (R154). -/
def State.timeoutDue (s : State) : Bool :=
  s.started && s.dmd.capture == (s.dmd.timeouts + 1) * s.port.config.dmdMax.toNat + 1

/-- DMD_TIMEOUT (R154). -/
def execDmdTimeout (s : State) : Host.Outcome State Fault Refusal :=
  whenDue s.timeoutDue s
    (s.setDmd { s.dmd with timeouts := s.dmd.timeouts + 1, cond := .judged }).badPeriod

end Sys2Proof.Machine
end

