-- ==== Sys2Proof/Machine/Reset.lean ====
section
/-! DEFINITION. The commands of reset: RESET, RESET_RELEASE. -/

namespace Sys2Proof.Machine

/-- Every block takes its reset value (R18, R33, R54, R57, R77, R132, R149, R159, R185). What reset does not reach
stays: the unit number, the levels at the input pins, the queue and the counter of free choices. -/
def State.resetBlocks (s : State) : State :=
  { State.reset with
    unitNumber := s.unitNumber
    inputs := s.inputs
    choices := s.choices
    pending := s.pending }

/-- RESET (R95). -/
def execReset (s : State) : Host.Outcome State Fault Refusal := done s.resetBlocks

/-- The straps are sampled at the release of reset, and a port whose SSN is low waits for it to rise (R173, section
11.2). Until that rise SDO stays high-impedance: section 11.2 has it driven while SSN is low, and no rule gives its level
there (R174; log 25). -/
def State.sampleStraps (s : State) (x : Straps) (ssnLow : Bool) : State :=
  (s.setStraps (some x)).setPort { s.port with awaitRise := ssnLow }

/-- RESET_RELEASE (R173, R81): with AUTO high the station performs START at that instant. -/
def execResetRelease (x : Straps) (ssnLow : Bool) (s : State) : Host.Outcome State Fault Refusal :=
  let sampled := s.sampleStraps x ssnLow
  whenDue s.straps.isNone s (if x.auto then sampled.startStation else sampled)

end Sys2Proof.Machine
end

