-- ==== Sys2Proof/Machine/Port.lean ====
section
/-! DEFINITION. The commands of the setup port (chapter 11): the ten commands, UNKNOWN and TRANSACTION_CUT. A port
command is one completed byte of its transaction. -/

namespace Sys2Proof.Machine

/-! ## The shared operations of a transaction -/

/-- The port takes a transaction: RESET_N is high, and SSN has risen since the release (section 11.2). -/
def State.portOpen (s : State) : Bool := s.straps.isSome && !s.port.awaitRise

/-- A transaction begins with its command byte: SDO shifts out 0x00 (R174), and an older transaction is over
(log 10). -/
def State.beginTransaction (s : State) (cmd : PortCommand) (result : ResultCode) (out : List Byte) : State :=
  s.setPort
    { s.port with
      marks := none
      sdo := some 0x00
      txn := some
        { cmd := cmd, result := result, bytes := 1, out := out, received := [], shown := 0, returned := 0 } }

/-- The byte shifted out as byte `n` of the transaction, from byte 2 on (R174, R175). -/
def Transaction.shiftOut (t : Transaction) (n : Nat) : Byte :=
  if n = 2 then t.result.byte else if t.result = .accepted then t.out.getD (n - 3) 0x00 else 0x00

/-- One more byte of the transaction is completed (R174). -/
def State.advanceByte (s : State) (t : Transaction) : State :=
  s.setPort { s.port with sdo := some (t.shiftOut (t.bytes + 1)), txn := some { t with bytes := t.bytes + 1 } }

/-- A later byte of a transaction of command `cmd`: the byte is shifted, and `effect` is what the byte does to the
station. With no such transaction there is no such byte (log 7). -/
def State.laterByte (s : State) (cmd : PortCommand) (effect : Transaction → State → State) : State :=
  match s.port.txn with
  | some t => if s.portOpen && t.cmd == cmd then effect t (s.advanceByte t) else s
  | none => s

/-- An effect that an accepted command takes at the completion of byte `n`, and at no other byte (R174). -/
def atByte (n : Nat) (effect : Transaction → State → State) (t : Transaction) (s : State) : State :=
  if t.result = .accepted ∧ t.bytes + 1 = n then effect t s else s

/-- A byte without an effect (R174). -/
def noEffect (_t : Transaction) (s : State) : State := s

/-- ACCEPTED where the condition holds, REFUSED_STATE elsewhere (R176). -/
def acceptedIf (b : Bool) : ResultCode := if b then .accepted else .refusedState

/-- The station is in SETUP with AUTO low (R176). -/
def State.setupByHost (s : State) : Bool := s.ctl.state == .setup && !s.autoHigh

/-- The command byte of a command, where the port takes one. -/
def State.commandByte (s : State) (cmd : PortCommand) (result : ResultCode) (out : List Byte) : State :=
  if s.portOpen then s.beginTransaction cmd result out else s

/-! ## The reads -/

/-- IDENT (R178). -/
def execIdent (byte : PortByte) (s : State) : Host.Outcome State Fault Refusal :=
  match byte with
  | .command => done (s.commandByte .ident .accepted s.identBytes)
  | .later _ => done (s.laterByte .ident noEffect)

/-- READ_CONFIG (R177). -/
def execReadConfig (byte : PortByte) (s : State) : Host.Outcome State Fault Refusal :=
  match byte with
  | .command => done (s.commandByte .readConfig .accepted (configBytes s.port.config))
  | .later _ => done (s.laterByte .readConfig noEffect)

/-- READ_ROSTER (R76, R178). -/
def execReadRoster (byte : PortByte) (s : State) : Host.Outcome State Fault Refusal :=
  match byte with
  | .command => done (s.commandByte .readRoster .accepted s.rosterBytes)
  | .later _ => done (s.laterByte .readRoster noEffect)

/-- The snapshot of a READ_STATUS shows the flags as they stand, and the raise marks start clear but for the flags
raised at this instant (R181). -/
def State.snapshot (s : State) : State :=
  let begun := s.beginTransaction .readStatus .accepted s.statusBytes
  begun.setPort
    { begun.port with
      marks := some s.port.raisedNow
      txn := begun.port.txn.map (fun t => { t with shown := s.port.flags }) }

/-- The effect point of a READ_STATUS (R181). -/
def clearFlags (t : Transaction) (s : State) : State := s.setPort (s.port.clearShown t.shown)

/-- READ_STATUS (R181): its effect point is the end of its first data byte. -/
def execReadStatus (byte : PortByte) (s : State) : Host.Outcome State Fault Refusal :=
  match byte with
  | .command => done (if s.portOpen then s.snapshot else s)
  | .later _ => done (s.laterByte .readStatus (atByte 3 clearFlags))

/-- The command byte of a READ_HISTORY fixes the records it returns (R183). -/
def State.fixRecords (s : State) : State :=
  let begun := s.beginTransaction .readHistory .accepted s.historyBytes
  begun.setPort
    { begun.port with
      txn := begun.port.txn.map (fun t => { t with returned := s.port.history.length }) }

/-- The effect point of a READ_HISTORY (R183): the returned records that are still held leave. -/
def drainHistory (t : Transaction) (s : State) : State :=
  s.setPort
    { s.port with
      history := s.port.history.drop t.returned
      txn := s.port.txn.map (fun u => { u with returned := 0 }) }

/-- READ_HISTORY (R183): its effect point is the end of the count byte. -/
def execReadHistory (byte : PortByte) (s : State) : Host.Outcome State Fault Refusal :=
  match byte with
  | .command => done (if s.portOpen then s.fixRecords else s)
  | .later _ => done (s.laterByte .readHistory (atByte 3 drainHistory))

/-! ## WRITE_CONFIG and START -/

/-- A data byte of an accepted WRITE_CONFIG, bytes 3 to 50, is kept (R174, R177). -/
def keepByte (sdi : Byte) (t : Transaction) (s : State) : State :=
  if t.result = .accepted ∧ 3 ≤ t.bytes + 1 ∧ t.bytes + 1 ≤ 50 then
    s.setPort
      { s.port with txn := s.port.txn.map (fun u => { u with received := u.received ++ [sdi] }) }
  else s

/-- The record is replaced as a whole by the bytes received (R177); a station that is not in SETUP keeps its record
(R80). -/
def replaceRecord (sdi : Byte) (t : Transaction) (s : State) : State :=
  if s.ctl.state = .setup then
    s.setPort { s.port with config := configOfBytes (t.received ++ [sdi]) }
  else s

/-- WRITE_CONFIG (R177): its effect point is the end of its 48th data byte. -/
def execWriteConfig (byte : PortByte) (s : State) : Host.Outcome State Fault Refusal :=
  match byte with
  | .command => done (s.commandByte .writeConfig (acceptedIf s.setupByHost) [])
  | .later sdi =>
    done (s.laterByte .writeConfig (fun t r => atByte 50 (replaceRecord sdi) t (keepByte sdi t r)))

/-- The result of a START (R80, R179). -/
def State.startResult (s : State) : ResultCode :=
  if s.setupByHost then
    match firstStartFailure s.port.config with
    | some n => .invalidConfig n
    | none => .accepted
  else .refusedState

/-- START takes effect (R80). -/
def takeStart (_t : Transaction) (s : State) : State := s.startStation

/-- START (R80): its effect point is the end of the result byte. -/
def execStart (byte : PortByte) (s : State) : Host.Outcome State Fault Refusal :=
  match byte with
  | .command => done (s.commandByte .start s.startResult [])
  | .later _ => done (s.laterByte .start (atByte 2 takeStart))

/-! ## ASIDE, RETURN, CLEAR_FAULT -/

/-- ASIDE takes effect (R84): an ASIDE while the flag is set changes nothing. -/
def takeAside (_t : Transaction) (s : State) : State :=
  if s.ctl.causes.commanded then s else s.addCause .commanded

/-- ASIDE (R84). -/
def execAside (byte : PortByte) (s : State) : Host.Outcome State Fault Refusal :=
  match byte with
  | .command => done (s.commandByte .aside (acceptedIf s.started) [])
  | .later _ => done (s.laterByte .aside (atByte 2 takeAside))

/-- RETURN takes effect (R84). -/
def takeReturn (_t : Transaction) (s : State) : State := s.removeCause .commanded

/-- RETURN (R84). -/
def execReturn (byte : PortByte) (s : State) : Host.Outcome State Fault Refusal :=
  match byte with
  | .command => done (s.commandByte .ret (acceptedIf s.started) [])
  | .later _ => done (s.laterByte .ret (atByte 2 takeReturn))

/-- CLEAR_FAULT is accepted (R94): in FAULT, cause DUPLICATE or OVERCURRENT, with nothing left to announce. -/
def State.faultClearable (s : State) : Bool :=
  s.ctl.state == .fault && s.ctl.announce == 0
    && (s.ctl.faultCause == some .duplicate || s.ctl.faultCause == some .overcurrent)

/-- CLEAR_FAULT takes effect (R94). -/
def takeClearFault (_t : Transaction) (s : State) : State := s.rejoin false

/-- CLEAR_FAULT (R94). -/
def execClearFault (byte : PortByte) (s : State) : Host.Outcome State Fault Refusal :=
  match byte with
  | .command => done (s.commandByte .clearFault (acceptedIf s.faultClearable) [])
  | .later _ => done (s.laterByte .clearFault (atByte 2 takeClearFault))

/-! ## UNKNOWN and TRANSACTION_CUT -/

/-- UNKNOWN (R175): a byte that is no command code; a transaction whose command byte is a code is not this row. -/
def execUnknown (code : Byte) (byte : PortByte) (s : State) : Host.Outcome State Fault Refusal :=
  match byte with
  | .command => done (if portCommandOf code = .unknown then s.commandByte .unknown .unknown [] else s)
  | .later _ => done (s.laterByte .unknown noEffect)

/-- SSN rises (R174, R181, section 11.2): the transaction ends and its marks are dropped, SDO is high-impedance,
and a port that waited for the rise takes transactions again. -/
def PortUnit.deselect (p : PortUnit) : PortUnit :=
  { p with txn := none, marks := none, sdo := none, awaitRise := false }

/-- TRANSACTION_CUT (R174). -/
def execTransactionCut (s : State) : Host.Outcome State Fault Refusal :=
  whenDue s.straps.isSome s (s.setPort s.port.deselect)

end Sys2Proof.Machine
end

