-- ==== Sys2Proof/Machine/Clock.lean ====
section
/-! DEFINITION. What passes without a command: one count of the count clock, and the events that have come due at the
present instant (log 1, log 5). -/

namespace Sys2Proof.Machine

/-! ## One count -/

/-- One count in the frame unit: the counter, the timers and one sample of FRM (R1, R2, R15, R20, R21). -/
def FrameUnit.tick (f : FrameUnit) (pin : Bool) : FrameUnit :=
  { f with
    counter := saturate16 f.counter
    quietTimer := f.quietTimer.advance
    stuckTimer := f.stuckTimer.advance
    filter := f.filter.take 2 pin }

/-- The first three SHR samples of a frame are taken at SAMPLE_AT, SAMPLE_AT + 2 and SAMPLE_AT + 4 (R38); the fourth
comes with BIT_TIME. -/
def State.sampleShr (s : State) : State :=
  if s.sampling ∧ s.exch.samples.length < 3 ∧ s.frame.counter = s.sampleAt + 2 * s.exch.samples.length then
    s.setExch { s.exch with samples := s.exch.samples ++ [s.shrBit] }
  else s

/-- A change of a qualified level that brings nothing with it is made at once: the first setting (R127, R150), and a
deassertion (R128). -/
def Filter.settleQuiet (need : Nat) (quiet : Option Bool → Bool → Bool) (f : Filter) : Filter :=
  match f.qualified need with
  | some v => if quiet f.level v then Filter.settle need v else f
  | none => f

/-- OCI takes its first level, and a low level, without an event (R127, R128, log 12). -/
def ociQuiet (level : Option Bool) (v : Bool) : Bool := level == none || !v

/-- DMD takes its first level without an event (R150). -/
def dmdQuiet (level : Option Bool) (_v : Bool) : Bool := level == none

/-- The dead-time timer after one count (R117). -/
def deadTimerTick (dead : Nat) : Option Nat → Option Nat
  | some n => if n + 1 < dead then some (n + 1) else none
  | none => none

/-- One count in the phase generator (R117, R120, R127); what an instant owed ends with it (log 20). -/
def PhaseGenerator.tick (g : PhaseGenerator) (dead : Nat) (oci : Bool) : PhaseGenerator :=
  { g with
    deadTimer := deadTimerTick dead g.deadTimer
    remaining := if g.hg then g.remaining - 1 else g.remaining
    owedCut := false
    owedPoint := false
    oci := (g.oci.take 2 oci).settleQuiet 2 ociQuiet }

/-- The code at which the pin of a channel stands (R133). -/
def Inputs.codeAt (x : Inputs) : Channel → Reading
  | .isns => x.isns
  | .tsns => x.tsns
  | .vsns => x.vsns

/-- One count of a conversion: the eighth count of sampling fixes the code (R133, log 8). -/
def Conversion.tick (c : Conversion) (x : Inputs) : Conversion :=
  { c with timer := c.timer + 1, held := if c.timer + 1 = 8 then x.codeAt c.channel else c.held }

/-- One count in the measurement unit (R133, R138). -/
def MeasurementUnit.tick (m : MeasurementUnit) (x : Inputs) : MeasurementUnit :=
  { m with conv := m.conv.map (·.tick x), pace := m.pace.advance }

/-- One count in the demand monitor: the capture counter, and on every second count one sample (R150, R151). -/
def DemandMonitor.tick (d : DemandMonitor) (active : Bool) : DemandMonitor :=
  { d with
    capture := saturate16 d.capture
    phase := !d.phase
    filter := if d.phase then (d.filter.take 4 active).settleQuiet 4 dmdQuiet else d.filter }

/-- One count passes in a started station; in SETUP every counter stands and no filter runs (R1, R2, R79). The samples
of a count come before its events, so the station's own pull or release of FRM shows after exactly 2 counts, within the
1 to 2 of R1: the model's choice (log 26). -/
def State.tick (s : State) : State :=
  if s.started then
    ((((s.setFrame (s.frame.tick s.frmPin)).sampleShr.setGen (s.gen.tick s.dead s.inputs.ociHigh)).setMeas
      (s.meas.tick s.inputs)).setDmd (s.dmd.tick (s.inputs.dmdHigh == s.activeLevel))).setPort
      { s.port with raisedNow := 0 }
  else s

/-! ## The events of the present instant -/

/-- A qualified change of FRM that the filter shows (R1). -/
def State.frmTurns (s : State) (old : Option Bool) (v : Bool) : Bool := s.frame.filter.turns 2 old v

/-- The result of the conversion in progress. -/
def State.heldCode (s : State) : Reading :=
  match s.meas.conv with
  | some c => c.held
  | none => 0

/-- Each event of the station's own with whether it has come due. -/
def State.events (s : State) : List (Bool × Instr) :=
  [ (s.firstLevelCan && s.frmTurns none true, .frmFirstQualifiedLevel true),
    (s.firstLevelCan && s.frmTurns none false, .frmFirstQualifiedLevel false),
    (s.riseCan && s.frmTurns (some false) true, .frameStart),
    (s.fallCan && s.frmTurns (some true) false, .frameFallingEdge),
    (s.markDue, .markClassified),
    (s.pullDue, .pullPoint),
    (s.ownEndDue, .ownEnd),
    (s.stuckDue, .stuck),
    (s.listenStuckDue, .listenStuckDeclared),
    (s.foundingDue, .founding),
    (s.freeRunDue, .freeRunFrame),
    (s.driveDue, .drivePoint),
    (s.bitDue, .bitTime s.shrBit),
    (s.closeCan, .wordClose),
    (s.paceDue, .housekeepingPace),
    (s.warmDue, .warmUpComplete),
    (s.leadDue, .leadPoint),
    (s.onDue || s.pointOwed, .onPoint),
    (s.pulseEndDue, .pulseEnd),
    (s.lgDue, .deadTimeRunOut),
    (s.triggerDue, .currentTrigger),
    (s.ociCan && s.gen.oci.turns 2 (some false) true, .ociAssert),
    (s.conversionDue, .conversionComplete s.heldCode),
    (s.activeCan && s.dmd.filter.turns 4 (some false) true, .dmdActiveEdge),
    (s.inactiveCan && s.dmd.filter.turns 4 (some true) false, .dmdInactiveEdge),
    (s.timeoutDue, .dmdTimeout) ]

/-- The events that have come due; there are none in SETUP. -/
def State.dueEvents (s : State) : List Instr :=
  if s.started then s.events.filterMap (fun e => if e.1 then some e.2 else none) else []

/-- Which of several due events is taken first: a free choice (log 5). -/
def State.chooseFirst (s : State) (first : Instr) (others : List Instr) : State :=
  let all := first :: others
  { s with
    pending := [all.getD (Config.takenFirst s.choices % all.length) first]
    choices := s.choices + 1 }

/-- A step on an empty queue (log 1): a due event joins the queue; with none due, one count passes. -/
def State.idle (s : State) : State :=
  match s.dueEvents with
  | [] => s.tick
  | [c] => s.setPending [c]
  | c :: others => s.chooseFirst c others

end Sys2Proof.Machine
end

