-- ==== Sys2Proof/Machine/Dispatch.lean ====
section
/-! DEFINITION. The dispatch: one arm per command, each a direct call of its meaning. -/

namespace Sys2Proof.Machine

/-- The effect of a command on everything but the queue. -/
def exec (i : Instr) (s : State) : Host.Outcome State Fault Refusal :=
  match i with
  | .reset => Sys2Proof.Machine.execReset s
  | .resetRelease x ssnLow => Sys2Proof.Machine.execResetRelease x ssnLow s
  | .frameStart => Sys2Proof.Machine.execFrameStart s
  | .frameFallingEdge => Sys2Proof.Machine.execFrameFallingEdge s
  | .markClassified => Sys2Proof.Machine.execMarkClassified s
  | .pullPoint => Sys2Proof.Machine.execPullPoint s
  | .ownEnd => Sys2Proof.Machine.execOwnEnd s
  | .stuck => Sys2Proof.Machine.execStuck s
  | .listenStuckDeclared => Sys2Proof.Machine.execListenStuckDeclared s
  | .founding => Sys2Proof.Machine.execFounding s
  | .freeRunFrame => Sys2Proof.Machine.execFreeRunFrame s
  | .drivePoint => Sys2Proof.Machine.execDrivePoint s
  | .bitTime sample => Sys2Proof.Machine.execBitTime sample s
  | .wordClose => Sys2Proof.Machine.execWordClose s
  | .housekeepingPace => Sys2Proof.Machine.execHousekeepingPace s
  | .warmUpComplete => Sys2Proof.Machine.execWarmUpComplete s
  | .leadPoint => Sys2Proof.Machine.execLeadPoint s
  | .onPoint => Sys2Proof.Machine.execOnPoint s
  | .pulseEnd => Sys2Proof.Machine.execPulseEnd s
  | .deadTimeRunOut => Sys2Proof.Machine.execDeadTimeRunOut s
  | .currentTrigger => Sys2Proof.Machine.execCurrentTrigger s
  | .ociAssert => Sys2Proof.Machine.execOciAssert s
  | .conversionComplete code => Sys2Proof.Machine.execConversionComplete code s
  | .dmdActiveEdge => Sys2Proof.Machine.execDmdActiveEdge s
  | .dmdInactiveEdge => Sys2Proof.Machine.execDmdInactiveEdge s
  | .dmdTimeout => Sys2Proof.Machine.execDmdTimeout s
  | .ident byte => Sys2Proof.Machine.execIdent byte s
  | .readConfig byte => Sys2Proof.Machine.execReadConfig byte s
  | .writeConfig byte => Sys2Proof.Machine.execWriteConfig byte s
  | .start byte => Sys2Proof.Machine.execStart byte s
  | .readStatus byte => Sys2Proof.Machine.execReadStatus byte s
  | .readRoster byte => Sys2Proof.Machine.execReadRoster byte s
  | .readHistory byte => Sys2Proof.Machine.execReadHistory byte s
  | .aside byte => Sys2Proof.Machine.execAside byte s
  | .ret byte => Sys2Proof.Machine.execReturn byte s
  | .clearFault byte => Sys2Proof.Machine.execClearFault byte s
  | .unknown code byte => Sys2Proof.Machine.execUnknown code byte s
  | .transactionCut => Sys2Proof.Machine.execTransactionCut s
  | .frmFirstQualifiedLevel high => Sys2Proof.Machine.execFrmFirstQualifiedLevel high s

end Sys2Proof.Machine
end

