-- ==== Sys2Proof/Safety.lean ====
section
/-! DEFINITION. The invariants of the station: predicates on State that every step keeps; and the kinds of command that
statements name. -/

namespace Sys2Proof

/-- The rows that stand for an event in the station or on its lines: not reset, not the setup port. -/
def Instr.isEvent : Instr → Bool
  | .reset | .resetRelease _ _ => false
  | .ident _ | .readConfig _ | .writeConfig _ | .start _ | .readStatus _ | .readRoster _ => false
  | .readHistory _ | .aside _ | .ret _ | .clearFault _ | .unknown _ _ | .transactionCut => false
  | _ => true

end Sys2Proof

namespace Sys2Proof.Machine

/-- The gates: HG and LG are never on together; HG is on in ACTIVE, or while a pulse runs on into SHED; LG is on in
ACTIVE only; a pulse is in flight exactly while HG is on; while a gate is on the dead-time timer has run out
(R117, R121, R123, R126). -/
def GatesSafe (s : State) : Prop :=
  ¬(s.gen.hg = true ∧ s.gen.lg = true)
  ∧ (s.gen.hg = true → s.ctl.state = .active ∨ s.ctl.state = .shed)
  ∧ (s.gen.lg = true → s.ctl.state = .active)
  ∧ s.gen.inFlight = s.gen.hg
  ∧ (s.gen.hg = true ∨ s.gen.lg = true → s.gen.deadTimer = none)

/-- A station that is not in SETUP, LISTEN or FAULT: CHECK, ASIDE and the member states (section 5.1). -/
def StationState.inGroup (x : StationState) : Bool := x == .check || x == .aside || x.isMember

/-- The barrier: the index has a value exactly while the station takes part; only a station that takes part pulls FRM
or SHR or has a word in progress; CHECK, ASIDE and the members take part, SETUP and LISTEN do not; with RESET_N low the
station is in SETUP (R4, R34, R38, R173, section 5.1). -/
def BarrierFits (s : State) : Prop :=
  s.frame.index.isSome = s.frame.takingPart
  ∧ (s.frame.pulling = true → s.frame.takingPart = true)
  ∧ (s.exch.drive = true → s.frame.takingPart = true)
  ∧ (s.exch.wordOpen = true → s.frame.takingPart = true)
  ∧ (s.exch.closeDue = true → s.exch.wordOpen = true)
  ∧ (s.ctl.state.inGroup = true → s.frame.takingPart = true)
  ∧ (s.ctl.state = .setup ∨ s.ctl.state = .listen → s.frame.takingPart = false)
  ∧ (s.straps = none → s.ctl.state = .setup)

/-- The share trim: outside ACTIVE the trim is 0, share-valid false, the whole-word flag clear and the share-limit run
0; the trim never passes TRIM_LIMIT and the run stays below 8 (R143, R146, R147). -/
def ShareFits (s : State) : Prop :=
  (s.ctl.state ≠ .active →
    s.meas.trim = 0 ∧ s.meas.shareValid = false ∧ s.meas.wholeWord = false ∧ s.meas.limitRun = 0)
  ∧ s.meas.trim ≤ s.port.config.trimLimit.toNat
  ∧ s.meas.limitRun < 8

/-- The converter: the queue holds TSNS and VSNS only, each at most once; an idle converter has an empty queue; a
housekeeping conversion is that of the head of the queue (R136, R140). -/
def ConverterFits (s : State) : Prop :=
  s.meas.queue.Nodup
  ∧ Channel.isns ∉ s.meas.queue
  ∧ (s.meas.conv = none → s.meas.queue = [])
  ∧ (∀ c, s.meas.conv = some c → c.channel = .isns ∨ s.meas.queue.head? = some c.channel)

/-- The demand monitor: the runs stay within 0..2 and are never both above 0; a VALID monitor has no bad-run of 2 and
a LOST one no good-run of 2; the DEMAND_LOST cause is present exactly while the monitor is LOST (R155, R156, R157,
R159). -/
def DemandFits (s : State) : Prop :=
  s.dmd.goodRun ≤ 2
  ∧ s.dmd.badRun ≤ 2
  ∧ (s.dmd.goodRun = 0 ∨ s.dmd.badRun = 0)
  ∧ (s.dmd.valid = true → s.dmd.badRun < 2)
  ∧ (s.dmd.valid = false → s.dmd.goodRun < 2)
  ∧ s.ctl.causes.demandLost = !s.dmd.valid

/-- The history holds at most 8 records, and a READ_HISTORY in progress never has more records to remove than the
history holds (R182, R183). -/
def HistoryFits (s : State) : Prop :=
  s.port.history.length ≤ 8
  ∧ (∀ t, s.port.txn = some t → t.returned ≤ s.port.history.length)

/-- The roster unit is empty in SETUP, and in LISTEN from the rejoin or the reset on (R32, R57). -/
def RosterFits (s : State) : Prop :=
  s.ctl.state = .setup ∨ s.ctl.state = .listen → s.roster = ⟨0, 0, 0, 0, 0, none, 1, 0, false, none⟩

/-- The states whose closes can decide a state (R71, R87, R100, R165). -/
def StationState.decides (x : StationState) : Decision → Bool
  | .check => x == .aside
  | .active => x == .shed
  | .shed => x == .check || x == .active || x == .hold
  | .parked => x == .shed || x == .warming || x == .hold
  | .warming => x == .parked

/-- The station controller: the decided state fits the state; CHECK, the members, and an ASIDE that has decided CHECK
have no aside cause; the fault cause is present exactly in FAULT; announce words are left only to a station in FAULT
that takes part and whose cause is not DUPLICATE, and are at most 2; the bias is off exactly in PARKED and in a cold
HOLD; the cold flag and the counters belong to their states (R78, R85, R87, R89 to R91, R101, R104, R105, R163,
R165). -/
def ControllerFits (s : State) : Prop :=
  (∀ d, s.ctl.decided = some d → s.ctl.state.decides d = true)
  ∧ (s.ctl.state.leavesForAside = true → s.ctl.causes.isEmpty = true)
  ∧ (s.ctl.state = .aside → s.ctl.decided ≠ none → s.ctl.causes.isEmpty = true)
  ∧ s.ctl.faultCause.isSome = (s.ctl.state == .fault)
  ∧ s.ctl.announce ≤ 2
  ∧ (s.ctl.announce ≠ 0 →
      s.ctl.state = .fault ∧ s.frame.takingPart = true ∧ s.ctl.faultCause ≠ some .duplicate)
  ∧ (s.ctl.haltWord = true → s.ctl.state = .fault)
  ∧ s.ctl.bias = !(s.ctl.state == .parked || (s.ctl.state == .hold && s.ctl.cold))
  ∧ (s.ctl.cold = true → s.ctl.state = .hold)
  ∧ (s.ctl.state = .hold → s.ctl.decided = some .shed → s.ctl.cold = false)
  ∧ (s.ctl.state = .hold → s.ctl.decided = some .parked → s.ctl.cold = true)
  ∧ (s.ctl.shedRun ≠ 0 → s.ctl.state = .shed)
  ∧ (s.ctl.warmCount ≠ 0 → s.ctl.state = .warming)
  ∧ (s.ctl.holdCount ≠ 0 → s.ctl.state = .hold)

/-- The station as a member of the group: the barrier and the controller fit together. -/
def StationFits (s : State) : Prop := BarrierFits s ∧ ControllerFits s

end Sys2Proof.Machine
end

