-- ==== Sys2Proof/Certificates/Slice0/Obligations.lean ====
section
/-! DEFINITION. The statements for the provers, one definition each. -/

open Sys2Proof Sys2Proof.Machine

/-- O1. A step takes the command at the front of the queue (What each step holds
(95_what_each_step_holds.md)). -/
def Obligations.StepTakesTheFrontCommand : Prop :=
  ∀ (c : Instr) (rest : List Instr) (s : State),
    step (s.setPending (c :: rest)) = exec c (s.setPending rest)

/-- O2. Every command answers a next state and leaves the queue and the outside alone (the model's
choice, logs 2 to 5 and 7) (What each step holds (95_what_each_step_holds.md), logs 2, 3, 4, 5 and 7
(notes/assumptions)). -/
def Obligations.EveryCommandCompletes : Prop :=
  ∀ (c : Instr) (s : State),
    ∃ t, exec c s = .next t ∧ t.pending = s.pending ∧ t.unitNumber = s.unitNumber
      ∧ t.inputs = s.inputs ∧ t.choices = s.choices

/-- O3. After START the configuration record and the straps change at reset only (R80, R173, R177).
-/
def Obligations.RecordAndStrapsStayFixedAfterStart : Prop :=
  ∀ (c : Instr) (s t : State),
    exec c s = .next t → c ≠ .reset → s.ctl.state ≠ .setup → s.straps ≠ none →
      t.port.config = s.port.config ∧ t.straps = s.straps

/-- O4. On an empty queue a due event is taken, or one count passes, which samples before its events
act (the model's choice, logs 1, 5 and 26) (R1, R2, R20, R38, R117, R120, R127, R133, R150, R151,
What each step holds (95_what_each_step_holds.md), logs 1, 5, 6, 8, 12, 20 and 26
(notes/assumptions)). -/
def Obligations.EmptyQueueRunsTheStation : Prop :=
  ∀ (s : State), s.pending = [] →
    (s.ctl.state = .setup → step s = .next s)
    ∧ (s.ctl.state ≠ .setup → s.dueEvents = [] →
        let sampled := fun (need : Nat) (f : Filter) (x : Bool) =>
          ({ f with
              streak := if 0 < f.streak ∧ f.sample = x then min need (f.streak + 1) else 1
              sample := x } : Filter)
        let timed := fun (t : Timer) => if t.running then (⟨true, t.count + 1⟩ : Timer) else t
        let oci := sampled 2 s.gen.oci s.inputs.ociHigh
        let dmd := sampled 4 s.dmd.filter (s.inputs.dmdHigh == s.activeLevel)
        let count := min 65535 (s.frame.counter + 1)
        let taken := s.exch.samples.length
        step s
          = .next
            { s with
              frame :=
                { s.frame with
                  counter := count
                  quietTimer := timed s.frame.quietTimer
                  stuckTimer := timed s.frame.stuckTimer
                  filter := sampled 2 s.frame.filter (!(s.frame.pulling || s.inputs.frmLow)) }
              exch :=
                { s.exch with
                  samples :=
                    if s.frame.takingPart = true ∧ s.exch.wordOpen = true ∧ taken < 3
                        ∧ count = s.sampleAt + 2 * taken then
                      s.exch.samples ++ [s.exch.drive || s.inputs.shrLow]
                    else s.exch.samples }
              gen :=
                { s.gen with
                  deadTimer :=
                    match s.gen.deadTimer with
                    | some n => if n + 1 < s.dead then some (n + 1) else none
                    | none => none
                  remaining := if s.gen.hg then s.gen.remaining - 1 else s.gen.remaining
                  owedCut := false
                  owedPoint := false
                  oci :=
                    if 2 ≤ oci.streak ∧ (oci.level = none ∨ oci.sample = false) then
                      ⟨2, oci.sample, some oci.sample⟩
                    else oci }
              meas :=
                { s.meas with
                  pace := timed s.meas.pace
                  conv :=
                    s.meas.conv.map fun c =>
                      { c with
                        timer := c.timer + 1
                        held :=
                          if c.timer + 1 = 8 then
                            (match c.channel with
                             | .isns => s.inputs.isns
                             | .tsns => s.inputs.tsns
                             | .vsns => s.inputs.vsns)
                          else c.held } }
              dmd :=
                { s.dmd with
                  capture := min 65535 (s.dmd.capture + 1)
                  phase := !s.dmd.phase
                  filter :=
                    if s.dmd.phase then
                      (if 4 ≤ dmd.streak ∧ dmd.level = none then ⟨4, dmd.sample, some dmd.sample⟩ else dmd)
                    else s.dmd.filter }
              port := { s.port with raisedNow := 0 } })
    ∧ (∀ c, s.dueEvents = [c] → step s = .next { s with pending := [c] })
    ∧ (∀ c d rest, s.dueEvents = c :: d :: rest →
        ∃ e ∈ s.dueEvents, step s = .next { s with pending := [e], choices := s.choices + 1 })

/-- O5. In SETUP no event of the lines or of the station changes anything (R1, R79). -/
def Obligations.EventsChangeNothingInSetup : Prop :=
  ∀ (c : Instr) (s : State), c.isEvent = true → s.ctl.state = .setup → s.frame.takingPart = false →
    s.gen.inFlight = false → exec c s = .next s

/-- O6. RESET takes the station to SETUP with every block at its reset value (logs 6, 19 and the
model's own marks: the model's choice; what stays: logs 3, 4, 5) (R18, R54, R57, R77, R95, R132,
R149, R159, R185, logs 3, 4, 5, 6, 19 and 20 (notes/assumptions)). -/
def Obligations.ResetPutsEveryBlockBack : Prop :=
  ∀ (s : State), ∃ t, exec .reset s = .next t
    ∧ t = { State.reset with
            unitNumber := s.unitNumber, inputs := s.inputs, choices := s.choices, pending := s.pending }
    ∧ t.straps = none
    ∧ t.ctl = ⟨.setup, none, ⟨true, false, false⟩, none, 0, false, 1, 0, 0, 0, false, true⟩
    ∧ t.frame.filter = ⟨0, false, none⟩ ∧ t.frame.counter = 0 ∧ t.frame.index = none
    ∧ t.frame.takingPart = false ∧ t.frame.pulling = false ∧ t.frame.ownEnd = false
    ∧ t.frame.lastLength = 0 ∧ t.frame.lastHigh = 0 ∧ t.frame.lastWait = 0 ∧ t.frame.waitRun = 0
    ∧ t.frame.stuckTimer = ⟨false, 0⟩ ∧ t.frame.quietTimer = ⟨false, 0⟩ ∧ t.frame.armed = false
    ∧ t.exch.drive = false ∧ t.exch.samples = [] ∧ t.exch.halt = none ∧ t.exch.damaged = false
    ∧ t.exch.wordNumber = 0
    ∧ t.roster = ⟨0, 0, 0, 0, 0, none, 1, 0, false, none⟩
    ∧ t.gen.hg = false ∧ t.gen.lg = false ∧ t.gen.deadTimer = none ∧ t.gen.onPoint = none
    ∧ t.gen.duty = 0 ∧ t.gen.ramp = 0 ∧ t.gen.ocRun = 0 ∧ t.gen.inFlight = false ∧ t.gen.remaining = 0
    ∧ t.meas.conv = none ∧ t.meas.queue = [] ∧ t.meas.tally = 0 ∧ t.meas.pace = ⟨false, 0⟩
    ∧ t.meas.trim = 0 ∧ t.meas.share = 0 ∧ t.meas.shareValid = false ∧ t.meas.lastMax = 0
    ∧ t.dmd.valid = false ∧ t.dmd.cond = .noPeriod ∧ t.dmd.lastGood = 0 ∧ t.dmd.goodRun = 0
    ∧ t.dmd.badRun = 0 ∧ t.dmd.capture = 0
    ∧ t.port = ⟨defaultConfig, 0, none, 0, [], none, false, none⟩

/-- O7. RESET_RELEASE samples the straps, and with AUTO high it starts the station (SDO left as it
was with SSN low: the model's choice, log 25) (R81, R173, 11.2 The port and its transactions, log 25
(notes/assumptions)). -/
def Obligations.ResetReleaseSamplesTheStraps : Prop :=
  ∀ (x : Straps) (low : Bool) (s : State), s.straps = none → s.ctl.state = .setup →
    (x.auto = false →
      exec (.resetRelease x low) s
        = .next { s with straps := some x, port := { s.port with awaitRise := low } })
    ∧ (x.auto = true →
      exec (.resetRelease x low) s
        = .next
          { s with
            straps := some x
            port := { s.port with awaitRise := low }
            ctl := { s.ctl with state := .listen }
            meas := { s.meas with pace := ⟨true, 0⟩ } })

/-- O8. PULL_POINT pulls FRM at count 48 in frame 0 and at count 16 in frames 1 to 29 (R5). -/
def Obligations.PullPointPullsTheLine : Prop :=
  (∀ (s : State) (i : Fin 30), s.frame.takingPart = true → s.frame.index = some i →
    s.frame.counter = (if i = 0 then 48 else 16) →
      exec .pullPoint s = .next { s with frame := { s.frame with pulling := true } })
  ∧ (∀ s : State, s.ctl.state = .listen → s.frame.classed = .opened → s.frame.counter = 32 →
      s.frame.filter.level = some true → s.frame.armed = true →
      ∃ t, exec .markClassified s = .next t ∧ t.frame.takingPart = true ∧ t.frame.pulling = true)
  ∧ (∀ s : State, s.ctl.state = .listen → s.frame.quietTimer.running = true →
      (3 + s.code) * s.frameLen ≤ s.frame.quietTimer.count →
      ∃ t, exec .founding s = .next t ∧ t.frame.takingPart = true ∧ t.frame.pulling = true)

/-- O9. OWN_END releases the line; in FAULT it ends the part of a DUPLICATE station and counts an
announced word (R6, R9, R15, R37, R52, R90). -/
def Obligations.OwnEndReleasesTheLine : Prop :=
  ∀ (s : State), s.frame.takingPart = true → s.frame.counter = s.frameLen → s.frame.ownEnd = false →
    let released : FrameUnit :=
      { s.frame with
        ownEnd := true
        pulling := false
        stuckTimer := if s.frame.filter.level = some false then ⟨true, 0⟩ else s.frame.stuckTimer }
    let out : FrameUnit :=
      { s.frame with
        ownEnd := true, pulling := false, takingPart := false, index := none, waitRun := 0
        stuckTimer := ⟨false, 0⟩, checked := false, markThis := false, markLast := false, counter := 0 }
    let cut : ExchangeUnit :=
      { ExchangeUnit.reset with wordNumber := s.exch.wordNumber, driven := s.exch.driven }
    let free : MeasurementUnit := { s.meas with freeFrames := 0 }
    let announced := s.ctl.haltWord = true ∧ s.frame.index = some 0
    (s.ctl.state ≠ .fault ∨ (s.ctl.faultCause ≠ some .duplicate ∧ ¬announced) →
      exec .ownEnd s = .next { s with frame := released })
    ∧ (s.ctl.state = .fault → s.ctl.faultCause = some .duplicate →
      exec .ownEnd s
        = .next { s with frame := out, exch := cut, meas := free, ctl := { s.ctl with haltWord := false } })
    ∧ (s.ctl.state = .fault → s.ctl.faultCause ≠ some .duplicate → announced → s.ctl.announce ≤ 1 →
      exec .ownEnd s
        = .next
          { s with
            frame := out, exch := cut, meas := free, ctl := { s.ctl with announce := 0, haltWord := false } })
    ∧ (s.ctl.state = .fault → s.ctl.faultCause ≠ some .duplicate → announced → 2 ≤ s.ctl.announce →
      exec .ownEnd s
        = .next
          { s with
            frame := released
            ctl := { s.ctl with announce := s.ctl.announce - 1, haltWord := false } })

/-- O10. FRAME_START of an aligned station opens the next frame and takes the wait (a pull made at
its count is kept: the model's choice, log 27) (R3, R13, R14, R105, R116, log 27
(notes/assumptions)). -/
def Obligations.FrameStartOpensTheNextFrame : Prop :=
  ∀ (s : State) (i : Fin 30), s.started = true → s.frame.filter.level = some false →
    s.frame.takingPart = true → s.ctl.state ≠ .listen → s.frame.index = some i →
    (s.exch.wordOpen = false ∨ 4 ≤ s.exch.samples.length) → s.exch.closeDue = false →
    ¬(s.ctl.state = .fault ∧ s.ctl.faultCause = some .duplicate) → i ≠ 29 →
      let wait := s.frame.counter - s.frameLen
      let run := if s.port.config.lagMax.toNat < wait then s.frame.waitRun + 1 else 0
      exec .frameStart s
        = .next
          { s with
            frame :=
              { s.frame with
                filter := ⟨2, true, some true⟩
                counter := 0
                index := some (i + 1)
                ownEnd := false
                stuckTimer := ⟨false, 0⟩
                lastLength := s.frame.counter
                lastWait := if s.frame.ownEnd then wait else s.frame.lastWait
                waitRun :=
                  if s.frame.ownEnd then (if 8 ≤ run then 0 else run) else s.frame.waitRun
                classed := .opened
                checked := true }
            exch := { s.exch with samples := [], driven := false }
            gen :=
              { s.gen with
                leadTaken := false
                onTaken := false
                ramp :=
                  if s.ctl.state = .active then min s.dutyMax (s.gen.ramp + s.port.config.ramp.toNat)
                  else s.gen.ramp
                lg :=
                  s.gen.lg || (s.ctl.state == .active && !s.gen.hg && s.gen.deadTimer.isNone
                    && !s.gen.leadWindow) }
            ctl :=
              { s.ctl with
                haltWord := false
                warmCount :=
                  if s.ctl.state = .warming then
                    min s.port.config.warmFrames.toNat (s.ctl.warmCount + 1)
                  else s.ctl.warmCount }
            port := if s.frame.ownEnd = true ∧ 8 ≤ run then s.port.raise .groupWait else s.port }

/-- O11. FRAME_START of frame 0 takes the decided state, opens an announced word, swaps the schedule
(a pull made at its count is kept: the model's choice, log 27) (R3, R13, R14, R31, R78, R90, R102,
R103, R105, R112, R116, logs 21 and 27 (notes/assumptions)). -/
def Obligations.FrameZeroStartTakesTheDecision : Prop :=
  ∀ (s : State), s.started = true → s.frame.filter.level = some false →
    s.frame.takingPart = true → s.ctl.state ≠ .listen → s.frame.index = some 29 →
    (s.exch.wordOpen = false ∨ 4 ≤ s.exch.samples.length) → s.exch.closeDue = false →
    ¬(s.ctl.state = .fault ∧ s.ctl.faultCause = some .duplicate) →
      let wait := s.frame.counter - s.frameLen
      let run := if s.port.config.lagMax.toNat < wait then s.frame.waitRun + 1 else 0
      let announced := s.ctl.stateAfter == .fault && decide (0 < s.ctl.announce)
      ∃ t, exec .frameStart s = .next t
        ∧ t.frame =
          { s.frame with
            filter := ⟨2, true, some true⟩
            counter := 0
            index := some 0
            ownEnd := false
            stuckTimer := ⟨false, 0⟩
            lastLength := s.frame.counter
            lastWait := if s.frame.ownEnd then wait else s.frame.lastWait
            waitRun := if s.frame.ownEnd then (if 8 ≤ run then 0 else run) else s.frame.waitRun
            classed := .opened
            checked := true }
        ∧ t.exch = { s.exch with samples := [], driven := false, wordOpen := true }
        ∧ t.port = (if s.frame.ownEnd = true ∧ 8 ≤ run then s.port.raise .groupWait else s.port)
        ∧ t.roster = s.roster ∧ t.dmd = s.dmd ∧ t.straps = s.straps
        ∧ t.ctl.state = s.ctl.stateAfter ∧ t.ctl.decided = none ∧ t.ctl.haltWord = announced
        ∧ t.ctl.causes = s.ctl.causes ∧ t.ctl.request = s.ctl.request
        ∧ t.ctl.faultCause = s.ctl.faultCause ∧ t.ctl.announce = s.ctl.announce
        ∧ (s.ctl.stateAfter = .active ∨ s.gen.nActive ≠ none →
            t.gen.rank = s.roster.rank ∧ t.gen.nActive = some s.roster.nActive)
        ∧ (s.ctl.stateAfter ≠ .active → s.gen.nActive = none →
            t.gen.rank = s.gen.rank ∧ t.gen.nActive = none)
        ∧ (∀ r, s.ctl.stateAfter = .active → s.roster.rank = some r → r < s.roster.nActive →
            t.gen.onPoint = some (r * s.frameLen / s.roster.nActive))
        ∧ (s.ctl.stateAfter ≠ .active ∨ s.roster.rank = none
            ∨ (∃ r, s.roster.rank = some r ∧ s.roster.nActive ≤ r) → t.gen.onPoint = none)
        ∧ (s.ctl.stateAfter = .active →
            t.gen.leadWindow = (s.gen.leadWindow && t.gen.onPoint.isSome)
              ∧ t.gen.lg = (s.gen.lg || (!s.gen.hg && s.gen.deadTimer.isNone && !t.gen.leadWindow)))
        ∧ t.gen.leadTaken = false ∧ t.gen.onTaken = false ∧ t.gen.oci = s.gen.oci
        ∧ (s.ctl.decided = none →
            t.ctl =
              { s.ctl with
                haltWord := announced
                warmCount :=
                  if s.ctl.state = .warming then
                    min s.port.config.warmFrames.toNat (s.ctl.warmCount + 1)
                  else s.ctl.warmCount }
            ∧ t.meas = { s.meas with wholeWord := s.meas.wholeWord || s.ctl.state == .active }
            ∧ t.gen.hg = s.gen.hg ∧ t.gen.inFlight = s.gen.inFlight ∧ t.gen.remaining = s.gen.remaining
            ∧ t.gen.deadTimer = s.gen.deadTimer ∧ t.gen.duty = s.gen.duty ∧ t.gen.ocRun = s.gen.ocRun
            ∧ t.gen.ramp =
              (if s.ctl.state = .active then min s.dutyMax (s.gen.ramp + s.port.config.ramp.toNat)
               else s.gen.ramp)
            ∧ (s.ctl.state ≠ .active → t.gen.lg = s.gen.lg))
        ∧ (s.ctl.decided ≠ none →
            t.ctl.shedRun = 0 ∧ t.ctl.warmCount = 0 ∧ t.ctl.holdCount = 0 ∧ t.ctl.cold = false)
        ∧ (s.ctl.decided = some .active →
            t.gen.ramp = 0 ∧ t.gen.duty = 0 ∧ t.gen.ocRun = 0 ∧ t.gen.hg = s.gen.hg
              ∧ t.meas = { s.meas with wholeWord := true } ∧ t.ctl.bias = s.ctl.bias)
        ∧ (s.ctl.decided = some .shed →
            t.gen.ramp = 0 ∧ t.gen.duty = 0 ∧ t.gen.ocRun = 0 ∧ t.gen.leadWindow = false
              ∧ t.gen.hg = s.gen.hg ∧ t.gen.lg = false ∧ t.gen.inFlight = s.gen.inFlight
              ∧ t.gen.remaining = s.gen.remaining ∧ t.meas.trim = 0 ∧ t.meas.shareValid = false
              ∧ t.meas.wholeWord = false ∧ t.meas.limitRun = 0 ∧ t.ctl.bias = s.ctl.bias)
        ∧ (s.ctl.decided = some .parked → t.ctl.bias = false ∧ t.gen.hg = false ∧ t.gen.lg = false)
        ∧ (s.ctl.decided = some .warming → t.ctl.bias = true ∧ t.gen.hg = false ∧ t.gen.lg = false)
        ∧ (s.ctl.decided = some .check → t.gen.hg = false ∧ t.gen.lg = false)
        ∧ t.meas.queue = s.meas.queue ∧ t.meas.conv = s.meas.conv ∧ t.meas.share = s.meas.share
        ∧ t.meas.accSum = s.meas.accSum ∧ t.meas.accCount = s.meas.accCount ∧ t.meas.tally = s.meas.tally

/-- O12. Outside the barrier the edges of FRM time the high and low periods; in LISTEN they arm the
frame, and a long low period is declared once (R1, R2, R11, R12, R19, R20, R21, R22, R30, logs 11
and 17 (notes/assumptions)). -/
def Obligations.ListenEdgesRunTheTimers : Prop :=
  (∀ (s : State), s.ctl.state = .listen → s.frame.takingPart = false →
    (s.frame.filter.level = some false →
      exec .frameStart s
        = .next
          { s with
            frame :=
              { s.frame with
                filter := ⟨2, true, some true⟩
                counter := 0
                classed := .opened
                quietTimer := ⟨true, 0⟩
                stuckTimer := ⟨false, 0⟩
                armed := s.frame.fellInListen && !s.frame.declared
                declared := false } })
    ∧ (s.frame.filter.level = some true →
        let fallen : FrameUnit :=
          { s.frame with
            filter := ⟨2, false, some false⟩
            quietTimer := ⟨false, 0⟩
            stuckTimer := ⟨true, 0⟩
            declared := false
            fellInListen := true }
        (s.frame.classed = .opened → s.frame.counter < 32 →
          exec .frameFallingEdge s
            = .next { s with frame := { fallen with lastHigh := s.frame.counter, classed := .normal } })
        ∧ (s.frame.classed = .opened → 32 ≤ s.frame.counter → s.frame.armed = false →
          exec .frameFallingEdge s
            = .next { s with frame := { fallen with lastHigh := s.frame.counter, classed := .mark } })
        ∧ (s.frame.classed = .opened → 32 ≤ s.frame.counter → s.frame.armed = true →
          ∃ u, exec .markClassified { s with frame := { s.frame with counter := 32 } } = .next u
            ∧ exec .frameFallingEdge s
              = exec .frameFallingEdge { u with frame := { u.frame with counter := s.frame.counter } })
        ∧ (s.frame.classed = .mark →
          exec .frameFallingEdge s = .next { s with frame := { fallen with lastHigh := s.frame.counter } })
        ∧ (s.frame.classed = .noFrame → exec .frameFallingEdge s = .next { s with frame := fallen })))
  ∧ (∀ (s : State), s.ctl.state = .fault → s.frame.takingPart = false →
    (s.frame.filter.level = some false →
      exec .frameStart s
        = .next { s with frame := { s.frame with filter := ⟨2, true, some true⟩, classed := .opened } })
    ∧ (s.frame.filter.level = some true →
      exec .frameFallingEdge s
        = .next { s with frame := { s.frame with filter := ⟨2, false, some false⟩ } }))
  ∧ (∀ (s : State), s.ctl.state = .listen →
      (s.frame.stuckTimer.running = true → 4 * s.frameLen ≤ s.frame.stuckTimer.count →
        exec .listenStuckDeclared s
          = .next
            { s with
              frame := { s.frame with declared := true, stuckTimer := ⟨false, 4 * s.frameLen⟩ }
              port := s.port.raise .stuck })
      ∧ (s.frame.stuckTimer.running = false → exec .listenStuckDeclared s = .next s))
  ∧ (∀ (high : Bool) (s : State), s.ctl.state = .listen → s.frame.filter.level = none →
      exec (.frmFirstQualifiedLevel high) s
        = .next
          { s with
            frame :=
              { s.frame with
                filter := ⟨2, high, some high⟩
                quietTimer := if high then ⟨true, 0⟩ else ⟨false, 0⟩
                stuckTimer := if high then ⟨false, 0⟩ else ⟨true, 0⟩ } })

/-- O13. Aligned stations classify each frame once; a wrong class damages the word and a second word
in a row rejoins (R11, R12, R27, R28, R29, R30, R31, R32, R33, log 11 (notes/assumptions)). -/
def Obligations.FallsAndMarksClassifyTheFrame : Prop :=
  (∀ (s : State) (i : Fin 30), s.started = true → s.frame.takingPart = true → s.ctl.state ≠ .listen →
      s.frame.filter.level = some true → s.frame.index = some i → s.frame.classed = .opened →
        (i ≠ 0 → s.frame.counter < 32 →
          exec .frameFallingEdge s
            = .next
              { s with
                frame :=
                  { s.frame with
                    filter := ⟨2, false, some false⟩, lastHigh := s.frame.counter, classed := .normal } })
        ∧ (i = 0 → s.frame.counter = 32 →
          exec .markClassified s = .next { s with frame := { s.frame with classed := .mark } }))
  ∧ (∀ (s : State) (i : Fin 30), s.started = true → s.frame.takingPart = true → s.ctl.state ≠ .listen →
      s.frame.filter.level = some true → s.frame.index = some i → s.frame.classed = .opened →
      s.frame.checked = true →
        (s.frame.markLast = false ∨ s.ctl.state = .fault →
          (i = 0 → s.frame.counter < 32 →
            exec .frameFallingEdge s
              = .next
                { s with
                  frame :=
                    { s.frame with
                      filter := ⟨2, false, some false⟩, lastHigh := s.frame.counter, classed := .normal
                      markThis := true }
                  exch := { s.exch with damaged := true }
                  port := s.port.raise .markError })
          ∧ (i ≠ 0 → s.frame.counter = 32 →
            exec .markClassified s
              = .next
                { s with
                  frame := { s.frame with classed := .mark, markThis := true }
                  exch := { s.exch with damaged := true }
                  port := s.port.raise .markError }))
        ∧ (s.frame.markLast = true → s.ctl.state ≠ .fault →
          let gates : PhaseGenerator :=
            { s.gen with
              rank := none, nActive := none, onPoint := none, leadWindow := false, duty := 0, ramp := 0
              ocRun := 0, inFlight := false, remaining := 0, hg := false, lg := false
              owedCut := false, owedPoint := false
              deadTimer := if s.gen.hg = true ∨ s.gen.lg = true then some 0 else s.gen.deadTimer }
          let measured : MeasurementUnit :=
            { s.meas with
              conv := s.meas.conv.map (fun c => { c with discard := c.discard || c.channel == .isns })
              share := 0, shareValid := false, accSum := 0, accCount := 0, wholeWord := false, trim := 0
              limitRun := 0, lastMax := 0, pace := ⟨true, 0⟩, freeFrames := 0 }
          let listener : Controller :=
            { s.ctl with
              state := .listen, decided := none, faultCause := none, announce := 0, haltWord := false
              shedRun := 0, warmCount := 0, holdCount := 0, cold := false, bias := true }
          let word : ExchangeUnit :=
            { ExchangeUnit.reset with wordNumber := s.exch.wordNumber, driven := s.exch.driven }
          let out : FrameUnit :=
            { s.frame with
              takingPart := false, pulling := false, index := none, ownEnd := false, waitRun := 0
              checked := false, markThis := false, markLast := false, armed := false
              fellInListen := false, declared := false }
          let left := fun (f : FrameUnit) =>
            { s with
              frame := f, exch := word, gen := gates, meas := measured, ctl := listener
              roster := ⟨0, 0, 0, 0, 0, none, 1, 0, false, none⟩
              port := s.port.raise .markError }
          (i = 0 → s.frame.counter < 32 →
            exec .frameFallingEdge s
              = .next
                (left
                  { out with
                    filter := ⟨2, false, some false⟩, lastHigh := s.frame.counter, classed := .normal
                    quietTimer := ⟨false, 0⟩, stuckTimer := ⟨true, 0⟩ }))
          ∧ (i ≠ 0 → s.frame.counter = 32 →
            exec .markClassified s
              = .next
                (left
                  { out with classed := .mark, quietTimer := ⟨true, 0⟩, stuckTimer := ⟨false, 0⟩ }))))
  ∧ (∀ (s : State), s.started = true → s.frame.takingPart = true → s.ctl.state ≠ .listen →
      s.frame.filter.level = some true →
        (s.frame.classed = .mark →
          exec .frameFallingEdge s
            = .next
              { s with
                frame := { s.frame with filter := ⟨2, false, some false⟩, lastHigh := s.frame.counter } })
        ∧ (s.frame.classed = .opened → 32 ≤ s.frame.counter →
          ∃ u, exec .markClassified { s with frame := { s.frame with counter := 32 } } = .next u
            ∧ u.frame.classed = .mark
            ∧ exec .frameFallingEdge s
              = exec .frameFallingEdge { u with frame := { u.frame with counter := s.frame.counter } }))

/-- O14. MARK_CLASSIFIED in LISTEN aligns an armed station (R10, R12, R23, R26, R28, R58, R82, R85,
R138). -/
def Obligations.MarkAlignsAnArmedListener : Prop :=
  ∀ (s : State), s.ctl.state = .listen → s.frame.classed = .opened → s.frame.counter = 32 →
    s.frame.filter.level = some true →
      (s.frame.armed = false →
        exec .markClassified s = .next { s with frame := { s.frame with classed := .mark } })
      ∧ (s.frame.armed = true →
        ∃ t, exec .markClassified s = .next t
          ∧ t.frame =
            { s.frame with
              classed := .mark, index := some 0, takingPart := true, pulling := true, ownEnd := false
              checked := false, quietTimer := ⟨false, 0⟩, stuckTimer := ⟨false, 0⟩, declared := false
              armed := false, fellInListen := false, markThis := false, markLast := false }
          ∧ t.exch =
            { ExchangeUnit.reset with
              drive := s.exch.drive, wordOpen := true, wordNumber := s.exch.wordNumber }
          ∧ t.roster = ⟨0, 0, 0, 0, 0, none, 1, 0, false, none⟩
          ∧ t.ctl.state = (if s.ctl.causes.isEmpty then .check else .aside)
          ∧ t.ctl.decided = none ∧ t.ctl.causes = s.ctl.causes ∧ t.ctl.shedRun = 0
          ∧ t.ctl.warmCount = 0 ∧ t.ctl.holdCount = 0 ∧ t.ctl.cold = false
          ∧ t.meas.pace = ⟨false, 0⟩ ∧ t.meas.queue = s.meas.queue ∧ t.meas.tally = s.meas.tally
          ∧ (s.ctl.causes.isEmpty = true → t.gen = s.gen)
          ∧ t.gen.rank = s.gen.rank ∧ t.gen.nActive = s.gen.nActive
          ∧ (s.ctl.causes.isEmpty = false → t.gen.onPoint = none ∧ t.gen.hg = false ∧ t.gen.lg = false)
          ∧ t.dmd = s.dmd ∧ t.port = s.port)

/-- O15. STUCK sets its flag and leaves the barrier: a rejoin outside FAULT, the end of announcing
in FAULT (R10, R16, R17, R19, R30, R31, R32, R33). -/
def Obligations.StuckLeavesTheBarrier : Prop :=
  ∀ (s : State), s.frame.takingPart = true → s.frame.stuckTimer.running = true →
    4 * s.frameLen ≤ s.frame.stuckTimer.count →
      let gates : PhaseGenerator :=
        { s.gen with
          rank := none, nActive := none, onPoint := none, leadWindow := false, duty := 0, ramp := 0
          ocRun := 0, inFlight := false, remaining := 0, hg := false, lg := false
          owedCut := false, owedPoint := false
          deadTimer := if s.gen.hg = true ∨ s.gen.lg = true then some 0 else s.gen.deadTimer }
      let measured : MeasurementUnit :=
        { s.meas with
          conv := s.meas.conv.map (fun c => { c with discard := c.discard || c.channel == .isns })
          share := 0, shareValid := false, accSum := 0, accCount := 0, wholeWord := false, trim := 0
          limitRun := 0, lastMax := 0, pace := ⟨true, 0⟩, freeFrames := 0 }
      let listener : Controller :=
        { s.ctl with
          state := .listen, decided := none, faultCause := none, announce := 0, haltWord := false
          shedRun := 0, warmCount := 0, holdCount := 0, cold := false, bias := true }
      let word : ExchangeUnit :=
        { ExchangeUnit.reset with wordNumber := s.exch.wordNumber, driven := s.exch.driven }
      let out : FrameUnit :=
        { s.frame with
          takingPart := false, pulling := false, index := none, ownEnd := false, waitRun := 0
          stuckTimer := ⟨false, 0⟩, checked := false, markThis := false, markLast := false }
      (s.ctl.state ≠ .fault →
        exec .stuck s
          = .next
            { s with
              frame :=
                { out with
                  armed := false, fellInListen := false, declared := true, quietTimer := ⟨false, 0⟩ }
              exch := word, gen := gates, meas := measured, ctl := listener
              roster := ⟨0, 0, 0, 0, 0, none, 1, 0, false, none⟩
              port := s.port.raise .stuck })
      ∧ (s.ctl.state = .fault →
        exec .stuck s
          = .next
            { s with
              frame := { out with counter := 0 }
              exch := word
              ctl := { s.ctl with announce := 0, haltWord := false }
              meas := { s.meas with freeFrames := 0 }
              port := s.port.raise .stuck })

/-- O16. A started station's own event is due exactly at its count, its edge or its close (the
model's choice, log 1) (R1, R5, R6, R12, R16, R20, R34, R38, R114, R118, R154, logs 1 and 20
(notes/assumptions)). -/
def Obligations.EventsComeDueAtTheirInstants : Prop :=
  ∀ (s : State), s.ctl.state ≠ .setup →
    let turns := fun (need : Nat) (f : Filter) (old : Option Bool) (v : Bool) =>
      f.level = old ∧ need ≤ f.streak ∧ f.sample = v
    let f := s.frame
    let taking := f.takingPart = true
    (∀ v, .frmFirstQualifiedLevel v ∈ s.dueEvents ↔ turns 2 f.filter none v)
    ∧ (.frameStart ∈ s.dueEvents ↔ turns 2 f.filter (some false) true)
    ∧ (.frameFallingEdge ∈ s.dueEvents ↔ turns 2 f.filter (some true) false)
    ∧ (.markClassified ∈ s.dueEvents ↔
        (s.ctl.state = .listen ∨ taking) ∧ f.classed = .opened ∧ f.counter = 32
          ∧ f.filter.level = some true)
    ∧ (.pullPoint ∈ s.dueEvents ↔
        taking ∧ f.counter = (if f.index = some 0 then 48 else 16) ∧ f.pulling = false)
    ∧ (.ownEnd ∈ s.dueEvents ↔ taking ∧ f.counter = s.frameLen ∧ f.ownEnd = false)
    ∧ (.stuck ∈ s.dueEvents ↔
        taking ∧ f.stuckTimer.running = true ∧ 4 * s.frameLen ≤ f.stuckTimer.count)
    ∧ (.listenStuckDeclared ∈ s.dueEvents ↔
        s.ctl.state = .listen ∧ f.stuckTimer.running = true ∧ 4 * s.frameLen ≤ f.stuckTimer.count)
    ∧ (.founding ∈ s.dueEvents ↔
        s.ctl.state = .listen ∧ f.quietTimer.running = true
          ∧ (3 + s.code) * s.frameLen ≤ f.quietTimer.count)
    ∧ (.freeRunFrame ∈ s.dueEvents ↔ s.ctl.state = .fault ∧ ¬taking ∧ s.frameLen ≤ f.counter)
    ∧ (.drivePoint ∈ s.dueEvents ↔
        taking ∧ f.counter = 56 ∧ s.exch.driven = false ∧ f.index ≠ none)
    ∧ (∀ x, .bitTime x ∈ s.dueEvents ↔
        taking ∧ s.exch.wordOpen = true ∧ f.counter = s.sampleAt + 6 ∧ s.exch.samples.length = 3
          ∧ x = (s.exch.drive || s.inputs.shrLow))
    ∧ (.wordClose ∈ s.dueEvents ↔ taking ∧ s.exch.wordOpen = true ∧ s.exch.closeDue = true)
    ∧ (.housekeepingPace ∈ s.dueEvents ↔
        s.ctl.state = .listen ∧ s.meas.pace.running = true ∧ 30 * s.frameLen ≤ s.meas.pace.count)
    ∧ (.warmUpComplete ∈ s.dueEvents ↔
        s.ctl.state = .warming ∧ f.counter = 0 ∧ s.port.config.warmFrames.toNat ≤ s.ctl.warmCount)
    ∧ (.leadPoint ∈ s.dueEvents ↔
        s.ctl.state = .active ∧ s.gen.leadTaken = false
          ∧ ∃ p, s.gen.onPoint = some p
            ∧ f.counter = (if s.dead ≤ p then p - s.dead else s.frameLen - s.dead + p))
    ∧ (.onPoint ∈ s.dueEvents ↔
        (s.ctl.state = .active ∧ s.gen.onTaken = false ∧ s.gen.onPoint = some f.counter)
          ∨ (s.ctl.state = .fault ∧ s.gen.owedPoint = true))
    ∧ (.pulseEnd ∈ s.dueEvents ↔ s.gen.inFlight = true ∧ s.gen.hg = true ∧ s.gen.remaining = 0)
    ∧ (.deadTimeRunOut ∈ s.dueEvents ↔
        s.ctl.state = .active ∧ s.gen.deadTimer = none ∧ s.gen.leadWindow = false ∧ s.gen.hg = false
          ∧ s.gen.lg = false)
    ∧ (.currentTrigger ∈ s.dueEvents ↔
        s.gen.inFlight = true ∧ s.gen.triggered = false
          ∧ s.gen.remaining + s.gen.pulseDuty / 2 = s.gen.pulseDuty)
    ∧ (.ociAssert ∈ s.dueEvents ↔ turns 2 s.gen.oci (some false) true)
    ∧ (∀ k, .conversionComplete k ∈ s.dueEvents ↔
        ∃ c, s.meas.conv = some c ∧ c.timer = 40 ∧ c.held = k)
    ∧ (.dmdActiveEdge ∈ s.dueEvents ↔ turns 4 s.dmd.filter (some false) true)
    ∧ (.dmdInactiveEdge ∈ s.dueEvents ↔ turns 4 s.dmd.filter (some true) false)
    ∧ (.dmdTimeout ∈ s.dueEvents ↔
        s.dmd.capture = (s.dmd.timeouts + 1) * s.port.config.dmdMax.toNat + 1)

/-- O17. FOUNDING starts a group: index 29, counter 0, FRM pulled, CHECK (R10, R20, R24, R58, R82,
R85, R138). -/
def Obligations.FoundingPullsTheLine : Prop :=
  ∀ (s : State), s.ctl.state = .listen → s.frame.quietTimer.running = true →
    (3 + s.code) * s.frameLen ≤ s.frame.quietTimer.count →
      ∃ t, exec .founding s = .next t
        ∧ t.frame =
          { s.frame with
            counter := 0, index := some 29, takingPart := true, pulling := true, ownEnd := false
            checked := false, quietTimer := ⟨false, 0⟩, stuckTimer := ⟨false, 0⟩, declared := false
            armed := false, fellInListen := false, markThis := false, markLast := false }
        ∧ t.exch =
          { ExchangeUnit.reset with drive := s.exch.drive, wordNumber := s.exch.wordNumber }
        ∧ t.roster = ⟨0, 0, 0, 0, 0, none, 1, 0, false, none⟩
        ∧ t.ctl.state = (if s.ctl.causes.isEmpty then .check else .aside)
        ∧ t.ctl.decided = none ∧ t.ctl.causes = s.ctl.causes ∧ t.meas.pace = ⟨false, 0⟩
        ∧ t.meas.queue = s.meas.queue ∧ t.dmd = s.dmd ∧ t.port = s.port

/-- O18. DRIVE_POINT drives the halt bit, the census bits of the own slot, and the latched bits of
the fields it contends in (R34, R35, R36, R43, R44, R46, R55, R56, R99, R144, R161). -/
def Obligations.DrivePointPresentsHaltAndCensus : Prop :=
  (∀ (s : State) (i : Fin 30), s.frame.takingPart = true → s.frame.index = some i →
      s.frame.counter = 56 → s.exch.driven = false →
        (s.exch.wordOpen = false →
          exec .drivePoint s = .next { s with exch := { s.exch with drive := false, driven := true } })
        ∧ (s.exch.wordOpen = true → i.val < 17 →
          let own := s.ctl.state.isMember && hasCode s.roster.accepted s.code
          let check := own && s.unitNumber.getLsbD s.roster.checkIndex.toNat
          exec .drivePoint s
            = .next
              { s with
                exch :=
                  { s.exch with
                    driven := true
                    drive :=
                      if i.val = 0 then s.ctl.state == .fault && s.ctl.haltWord
                      else if i.val = 1 + 2 * s.code then s.ctl.state.isMember
                      else if i.val = 2 + 2 * s.code then check
                      else false }
                roster :=
                  if i.val = 2 + 2 * s.code then { s.roster with sentCheck := some ⟨check, own⟩ }
                  else s.roster }))
  ∧ (∀ (s : State) (i : Fin 30), s.frame.takingPart = true → s.frame.index = some i →
      s.frame.counter = 56 → s.exch.driven = false → s.exch.wordOpen = true →
        let l : BitVec 3 := BitVec.ofNat 3 (s.ctl.request - 1)
        let shares := s.ctl.state == .active && s.meas.shareValid
        let phase : Field 3 :=
          { s.exch.phase with contending := s.exch.phase.contending && s.ctl.state.isMember }
        let current : Field 10 :=
          { s.exch.current with contending := s.exch.current.contending && s.ctl.state == .active }
        (i.val = 17 → s.ctl.state.isMember = true →
          exec .drivePoint s
            = .next
              { s with
                exch :=
                  { s.exch with driven := true, phase := ⟨true, true, some l, []⟩, drive := l.getLsbD 2 } })
        ∧ (i.val = 17 → s.ctl.state.isMember = false → s.exch.phase.contending = false →
          exec .drivePoint s = .next { s with exch := { s.exch with driven := true, drive := false } })
        ∧ (17 < i.val → i.val < 20 →
          exec .drivePoint s
            = .next
              { s with
                exch :=
                  { s.exch with
                    driven := true
                    phase := phase
                    drive := phase.contending && (phase.value.getD 0).getLsbD (19 - i.val) } })
        ∧ (i.val = 20 → shares = true →
          exec .drivePoint s
            = .next
              { s with
                exch :=
                  { s.exch with
                    driven := true
                    current := ⟨true, true, some s.meas.share, []⟩
                    drive := s.meas.share.getLsbD 9 } })
        ∧ (i.val = 20 → shares = false → s.exch.current.contending = false →
          exec .drivePoint s = .next { s with exch := { s.exch with driven := true, drive := false } })
        ∧ (20 < i.val →
          exec .drivePoint s
            = .next
              { s with
                exch :=
                  { s.exch with
                    driven := true
                    current := current
                    drive := current.contending && (current.value.getD 0).getLsbD (29 - i.val) } }))

/-- O19. A raise sets its flag; only a READ_STATUS that returned it, or reset, clears it (the
instant of a raise, the step on an empty queue: logs 14, 1) (R180, R181, logs 1 and 14
(notes/assumptions)). -/
def Obligations.FlagsStandUntilAStatusReadReturnsThem : Prop :=
  ∀ (f : Flag) (s : State),
    ((s.raise f).flagSet f = true
      ∧ (∀ m, s.port.marks = some m →
          ∃ m', (s.raise f).port.marks = some m' ∧ m'.getLsbD f.number = true)
      ∧ (s.raise f).port.raisedNow.getLsbD f.number = true)
    ∧ (∀ (c : Instr) (t : State), exec c s = .next t → s.flagSet f = true → t.flagSet f = false →
        c = .reset
          ∨ ∃ sdi x, c = .readStatus (.later sdi) ∧ s.port.txn = some x ∧ x.cmd = .readStatus
            ∧ x.result = .accepted ∧ x.bytes = 2 ∧ x.shown.getLsbD f.number = true)
    ∧ (∃ t, exec .reset s = .next t ∧ t.port.flags = 0)
    ∧ (∀ t, s.pending = [] → step s = .next t → t.port.flags = s.port.flags)
    ∧ (∀ (c : Instr) (t : State), exec c s = .next t → s.ctl.state = .setup → s.frame.takingPart = false →
        s.gen.inFlight = false → s.flagSet f = false → t.flagSet f = false)

/-- O20. BIT_TIME judges the samples; an unsettled bit damages the word, a contender goes on only on
a settled bit equal to its own, a leaver has not won (log 18) (R38, R39, R41, R44, R45, R46, R47,
R48, log 18 (notes/assumptions)). -/
def Obligations.BitTimeJudgesTheSamples : Prop :=
  (∀ (s : State) (i : Fin 30) (a b c d : Bool), s.frame.takingPart = true → s.exch.wordOpen = true →
      s.frame.index = some i → s.frame.counter = s.sampleAt + 6 → s.exch.samples = [a, b, c] →
        let r := if a = b ∧ b = c ∧ c = d then ReadBit.settled a else ReadBit.unsettled
        let hurt := s.exch.damaged || r == .unsettled
        (i.val < 17 → i.val % 2 = 1 →
          exec (.bitTime d) s
            = .next
              { s with
                exch :=
                  { s.exch with
                    samples := [a, b, c, d], damaged := hurt, presence := s.exch.presence ++ [r] } })
        ∧ (0 < i.val → i.val < 17 → i.val % 2 = 0 →
            (i.val ≠ 2 + 2 * s.code ∨ s.ctl.state.isMember = false
              ∨ s.roster.sentCheck ≠ some ⟨false, true⟩ ∨ r ≠ .one) →
          exec (.bitTime d) s
            = .next { s with exch := { s.exch with samples := [a, b, c, d], damaged := hurt } }))
  ∧ (∀ (s : State) (i : Fin 30) (a b c d : Bool), s.frame.takingPart = true → s.exch.wordOpen = true →
      s.frame.index = some i → s.frame.counter = s.sampleAt + 6 → s.exch.samples = [a, b, c] →
        let r := if a = b ∧ b = c ∧ c = d then ReadBit.settled a else ReadBit.unsettled
        let hurt := s.exch.damaged || r == .unsettled
        (17 ≤ i.val → i.val < 20 →
          exec (.bitTime d) s
            = .next
              { s with
                exch :=
                  { s.exch with
                    samples := [a, b, c, d]
                    damaged := hurt
                    phase :=
                      { s.exch.phase with
                        bits := s.exch.phase.bits ++ [r]
                        contending :=
                          s.exch.phase.contending && r == ReadBit.settled s.exch.drive
                            && (i != 19 || s.ctl.state.isMember) } } })
        ∧ (20 ≤ i.val →
          exec (.bitTime d) s
            = .next
              { s with
                exch :=
                  { s.exch with
                    samples := [a, b, c, d]
                    damaged := hurt
                    current :=
                      { s.exch.current with
                        bits := s.exch.current.bits ++ [r]
                        contending :=
                          s.exch.current.contending && r == ReadBit.settled s.exch.drive
                            && (i != 29 || s.ctl.state == .active) }
                    closeDue := s.exch.closeDue || i == 29 } }))

/-- O21. An early frame start judges the cut frame's bit unsettled and takes a close that falls due,
before it acts; a DUPLICATE station leaves the barrier at it (R8, R9, R37, R39, R40, R41, R44, R47,
R52, R78, logs 7 and 9 (notes/assumptions)). -/
def Obligations.EarlyFrameStartCutsTheFrameShort : Prop :=
  (∀ (s : State) (i : Fin 30), s.started = true → s.frame.filter.level = some false →
      s.frame.takingPart = true → s.ctl.state ≠ .listen → s.frame.index = some i →
      s.exch.closeDue = false →
        let sampled : State :=
          { s with
            frame := { s.frame with counter := s.sampleAt + 6 }
            exch := { s.exch with samples := [true, false, true] } }
        let atCut := fun (u : State) => { u with frame := { u.frame with counter := s.frame.counter } }
        (s.exch.wordOpen = true → s.exch.samples.length < 4 →
          ∃ u, exec (.bitTime false) sampled = .next u
            ∧ u.exch.damaged = true
            ∧ u.exch.phase.contending = (s.exch.phase.contending && !(decide (17 ≤ i.val ∧ i.val < 20)))
            ∧ u.exch.current.contending = (s.exch.current.contending && decide (i.val < 20))
            ∧ (i ≠ 29 → exec .frameStart s = exec .frameStart (atCut u))
            ∧ (i = 29 →
                ∃ v, exec .wordClose u = .next v ∧ exec .frameStart s = exec .frameStart (atCut v)))
        ∧ (s.exch.wordOpen = false ∨ 4 ≤ s.exch.samples.length →
          s.ctl.state = .fault → s.ctl.faultCause = some .duplicate →
          exec .frameStart s
            = .next
              { s with
                frame :=
                  { s.frame with
                    filter := ⟨2, true, some true⟩, classed := .opened, counter := 0, takingPart := false
                    pulling := false, index := none, waitRun := 0, stuckTimer := ⟨false, 0⟩
                    checked := false, markThis := false, markLast := false }
                exch :=
                  { ExchangeUnit.reset with wordNumber := s.exch.wordNumber, driven := s.exch.driven }
                meas := { s.meas with freeFrames := 0 }
                ctl := { s.ctl with haltWord := false } }))
  ∧ (∀ (s : State), s.started = true → s.frame.filter.level = some false →
    s.frame.takingPart = true → s.ctl.state ≠ .listen → s.exch.wordOpen = true →
    s.exch.closeDue = true → 4 ≤ s.exch.samples.length →
      ∃ v, exec .wordClose s = .next v ∧ v.exch.closeDue = false ∧ v.exch.wordOpen = false
        ∧ exec .frameStart s = exec .frameStart v)

/-- O22. A halt read at the bit time of frame 0 sets HALT_SEEN and sends switching members to HOLD
(R41, R162, R163, R166, R169). -/
def Obligations.HaltReadSendsMembersToHold : Prop :=
  ∀ (s : State) (i : Fin 30) (a b c d : Bool), s.frame.takingPart = true → s.exch.wordOpen = true →
    s.frame.index = some i → s.frame.counter = s.sampleAt + 6 → s.exch.samples = [a, b, c] → i = 0 →
      let r := if a = b ∧ b = c ∧ c = d then ReadBit.settled a else ReadBit.unsettled
      let e : ExchangeUnit :=
        { s.exch with
          samples := [a, b, c, d], damaged := s.exch.damaged || r == .unsettled, halt := some r }
      let words := s.port.config.holdWords.toNat
      let wasCold := s.ctl.state == .parked || s.ctl.state == .warming
      (r = .zero → exec (.bitTime d) s = .next { s with exch := e })
      ∧ (r ≠ .zero →
          (s.ctl.state = .active ∨ s.ctl.state = .shed ∨ s.ctl.state = .parked ∨ s.ctl.state = .warming) →
          ∃ g, exec (.bitTime d) s
              = .next
                { s with
                  exch := e
                  gen := g
                  meas :=
                    { s.meas with trim := 0, shareValid := false, wholeWord := false, limitRun := 0 }
                  ctl :=
                    { s.ctl with
                      state := .hold, decided := none, holdCount := words, shedRun := 0, warmCount := 0
                      cold := wasCold, bias := s.ctl.bias && !wasCold }
                  port := s.port.raise .haltSeen }
            ∧ g.hg = false ∧ g.lg = false ∧ g.inFlight = false ∧ g.remaining = 0 ∧ g.onPoint = none
            ∧ g.leadWindow = false ∧ g.ramp = 0 ∧ g.duty = 0 ∧ g.ocRun = 0 ∧ g.rank = s.gen.rank
            ∧ (g.deadTimer = if s.gen.hg = true ∨ s.gen.lg = true then some 0 else s.gen.deadTimer))
      ∧ (r ≠ .zero → s.ctl.state = .hold →
          exec (.bitTime d) s
            = .next
              { s with
                exch := e, ctl := { s.ctl with holdCount := words }, port := s.port.raise .haltSeen })
      ∧ (r ≠ .zero → s.ctl.state.isMember = false →
          exec (.bitTime d) s = .next { s with exch := e, port := s.port.raise .haltSeen })

/-- O23. A member that sent 0 in its own check frame and reads a settled 1 enters FAULT with cause
DUPLICATE (halt value kept: the model's choice, log 22) (R73, R88, R89, log 22 (notes/assumptions)).
-/
def Obligations.ReadOneAgainstASentZeroIsDuplicate : Prop :=
  ∀ (s : State) (i : Fin 30) (a b c d : Bool), s.frame.takingPart = true → s.exch.wordOpen = true →
    s.frame.index = some i → s.frame.counter = s.sampleAt + 6 → s.exch.samples = [a, b, c] → i.val = 2 + 2 * s.code →
    s.ctl.state.isMember = true → s.roster.sentCheck = some ⟨false, true⟩ →
    a = true → b = true → c = true → d = true →
      ∃ g m, exec (.bitTime d) s
          = .next
            { s with
              exch := { s.exch with samples := [true, true, true, true] }
              gen := g
              meas := m
              ctl :=
                { s.ctl with
                  state := .fault, decided := none, faultCause := some .duplicate, announce := 0
                  haltWord := false, shedRun := 0, warmCount := 0, holdCount := 0, cold := false
                  bias := true }
              port := s.port.raise .duplicate }
        ∧ g.hg = false ∧ g.lg = false ∧ g.inFlight = false ∧ g.onPoint = none ∧ g.duty = 0
        ∧ m.trim = 0 ∧ m.shareValid = false ∧ m.queue = s.meas.queue ∧ m.conv = s.meas.conv

/-- O24. WORD_CLOSE advances the word number, appends the record, clears the word and steps the
tally (R28, R42, R47, R48, R49, R50, R53, R137, R139, R140, R182, R183). -/
def Obligations.WordCloseMakesTheRecord : Prop :=
  ∀ (s : State), s.frame.takingPart = true → s.exch.wordOpen = true → s.exch.closeDue = true →
      let next := s.meas.tally + 1
      let hk := s.port.config.hkWords.toNat
      ∃ t, exec .wordClose s = .next t
        ∧ t.exch =
          { ExchangeUnit.reset with
            drive := s.exch.drive, driven := s.exch.driven, wordNumber := s.exch.wordNumber + 1 }
        ∧ t.port.history =
          (if 8 ≤ s.port.history.length then s.port.history.drop 1 else s.port.history)
            ++ [{ wordNumber := s.exch.wordNumber + 1
                  damaged := s.exch.damaged
                  halt := s.exch.halt.getD .zero
                  observedMap := if s.exch.damaged then none else some (presenceMap s.exch.presence)
                  phaseResult := if s.exch.damaged then none else some (fieldResult 3 s.exch.phase.bits)
                  currentMax :=
                    if s.exch.damaged then none else some (fieldResult 10 s.exch.current.bits)
                  ownShare := if s.exch.current.contended then s.exch.current.value else none
                  won :=
                    if s.exch.current.contended then some s.exch.current.contending else none
                  rosterAfter := t.roster.accepted
                  stateAfter := t.ctl.stateAfter }]
        ∧ t.frame = { s.frame with markLast := s.frame.markThis, markThis := false }
        ∧ (s.exch.damaged = true → t.flagSet .damagedWord = true)
        ∧ t.port.txn =
          (if 8 ≤ s.port.history.length then
             s.port.txn.map (fun x => { x with returned := x.returned - 1 })
           else s.port.txn)
        ∧ t.port.config = s.port.config ∧ t.port.sdo = s.port.sdo ∧ t.port.awaitRise = s.port.awaitRise
        ∧ (next < hk → t.meas.tally = next ∧ t.meas.queue = s.meas.queue ∧ t.meas.conv = s.meas.conv)
        ∧ (hk ≤ next → t.meas.tally = 0
            ∧ t.meas.queue
              = s.meas.queue ++ [Channel.tsns, Channel.vsns].filter (fun ch => !s.meas.queue.contains ch)
            ∧ t.meas.conv =
              (match s.meas.conv with
               | some c => some c
               | none => t.meas.queue.head?.map (fun ch => ⟨ch, 0, 0, false⟩))
            ∧ (Channel.tsns ∈ s.meas.queue ∨ Channel.vsns ∈ s.meas.queue → t.flagSet .hkLate = true))
        ∧ (s.ctl.state ≠ .check → t.gen = s.gen)
        ∧ t.dmd = s.dmd ∧ t.ctl.causes = s.ctl.causes
        ∧ t.straps = s.straps

/-- O25. WORD_CLOSE: the roster unit's work in its order, in every state (at a close in ASIDE or
FAULT after a rejoin: R75 as log 24 reads it against R32) (R59, R60, R61, R62, R63, R64, R65, R66,
R67, R68, R75, log 24 (notes/assumptions)). -/
def Obligations.WordCloseFiltersTheCensus : Prop :=
  ∀ (s : State), s.frame.takingPart = true → s.exch.wordOpen = true → s.exch.closeDue = true →
    s.ctl.state ≠ .aside ∨ s.ctl.causes.isEmpty = false →
      let map := presenceMap s.exch.presence
      let depth := s.port.config.rosterDepth.toNat
      let agree := if map = s.roster.candidate then min depth (s.roster.agree + 1) else 1
      let changes := agree = depth ∧ map ≠ s.roster.accepted
      let inSet := fun (m : CodeSet) (rank : Option Nat) (n : Nat) =>
        hasCode m s.code && (match rank with | some k => decide (k < n) | none => false)
      ∃ t, exec .wordClose s = .next t
        ∧ (s.exch.damaged = false →
            t.roster.observed = map ∧ t.roster.candidate = map ∧ t.roster.agree = agree
            ∧ t.roster.nReq = (fieldResult 3 s.exch.phase.bits).toNat + 1
            ∧ (changes → t.roster.accepted = map ∧ t.roster.checkIndex = 0
                ∧ t.roster.rank = (if hasCode map s.code then some (codesBelow map s.code) else none)
                ∧ t.flagSet .rosterChange = true)
            ∧ (¬changes → t.roster.accepted = s.roster.accepted
                ∧ t.roster.checkIndex = s.roster.checkIndex + 1 ∧ t.roster.rank = s.roster.rank))
        ∧ (s.exch.damaged = true →
            t.roster.observed = s.roster.observed ∧ t.roster.candidate = s.roster.candidate
            ∧ t.roster.agree = s.roster.agree ∧ t.roster.accepted = s.roster.accepted
            ∧ t.roster.checkIndex = s.roster.checkIndex + 1 ∧ t.roster.rank = s.roster.rank
            ∧ t.roster.nReq = s.roster.nReq)
        ∧ t.roster.nActive = min t.roster.nReq (codeCount t.roster.accepted)
        ∧ t.roster.inSet = inSet t.roster.accepted t.roster.rank t.roster.nActive
        ∧ t.roster.sentCheck = none

/-- O26. WORD_CLOSE in CHECK makes the slot test; in ASIDE it looks at the causes (R58, R71, R82,
R83, R87, R89). -/
def Obligations.WordCloseTestsTheSlotAndTheCauses : Prop :=
  ∀ (s : State), s.frame.takingPart = true → s.exch.wordOpen = true → s.exch.closeDue = true →
      let present := hasCode (presenceMap s.exch.presence) s.code
      ∃ t, exec .wordClose s = .next t
        ∧ (s.ctl.state = .check → s.exch.damaged = true → t.ctl.state = .check ∧ t.ctl.decided = none)
        ∧ (s.ctl.state = .check → s.exch.damaged = false → present = true →
            t.ctl.state = .fault ∧ t.ctl.faultCause = some .duplicate ∧ t.ctl.announce = 0
            ∧ t.ctl.decided = none ∧ t.flagSet .duplicate = true ∧ t.gen.hg = false ∧ t.gen.lg = false
            ∧ t.frame.takingPart = true)
        ∧ (s.ctl.state = .check → s.exch.damaged = false → present = false →
            t.ctl.state = .check ∧ t.ctl.decided = some .shed ∧ t.ctl.shedRun = 0)
        ∧ (s.ctl.state = .aside → s.ctl.causes.isEmpty = true →
            t.ctl.state = .aside ∧ t.ctl.decided = some .check
            ∧ t.roster = ⟨0, 0, 0, 0, 0, none, 1, 0, false, none⟩)
        ∧ (s.ctl.state = .aside → s.ctl.causes.isEmpty = false →
            t.ctl.state = .aside ∧ t.ctl.decided = none)
        ∧ (s.ctl.state = .fault → t.ctl.state = .fault ∧ t.ctl.decided = none
            ∧ t.ctl.faultCause = s.ctl.faultCause ∧ t.ctl.announce = s.ctl.announce)

/-- O27. WORD_CLOSE in a member state decides from the active-set result, and in HOLD from the hold
count (R78, R100, R101, R165). -/
def Obligations.WordCloseDecidesTheMembers : Prop :=
  ∀ (s : State), s.frame.takingPart = true → s.exch.wordOpen = true → s.exch.closeDue = true → s.ctl.state.isMember = true →
      let run := min 255 (s.ctl.shedRun + 1)
      let park := s.port.config.parkWords.toNat
      ∃ t, exec .wordClose s = .next t ∧ t.ctl.state = s.ctl.state ∧ t.gen = s.gen
        ∧ (s.ctl.state = .active → t.ctl.decided = if t.roster.inSet then none else some .shed)
        ∧ (s.ctl.state = .shed → t.roster.inSet = true → t.ctl.decided = some .active)
        ∧ (s.ctl.state = .shed → t.roster.inSet = false →
            t.ctl.shedRun = run ∧ t.ctl.decided = if 0 < park ∧ run = park then some .parked else none)
        ∧ (s.ctl.state = .parked → t.ctl.decided = if t.roster.inSet then some .warming else none)
        ∧ (s.ctl.state = .warming → t.ctl.decided = if t.roster.inSet then none else some .parked)
        ∧ (s.ctl.state = .hold →
            t.ctl.holdCount = s.ctl.holdCount - 1
            ∧ t.ctl.decided =
              if s.ctl.holdCount - 1 = 0 then (if s.ctl.cold then some .parked else some .shed) else none)

/-- O28. WORD_CLOSE updates L from the demand with the band of SHED_HYST (R96, R97, R98). -/
def Obligations.WordCloseUpdatesTheRequest : Prop :=
  ∀ (s : State), s.frame.takingPart = true → s.exch.wordOpen = true → s.exch.closeDue = true →
      let c := s.port.config
      let thresholds :=
        [c.shed1.toNat, c.shed2.toNat, c.shed3.toNat, c.shed4.toNat, c.shed5.toNat, c.shed6.toNat,
          c.shed7.toNat]
      let demand := s.dmd.lastGood.toNat
      let up := 1 + (thresholds.filter (fun th => decide (th ≤ demand))).length
      let down := 1 + (thresholds.filter (fun th => decide (th - c.shedHyst.toNat ≤ demand))).length
      ∃ t, exec .wordClose s = .next t
        ∧ (s.dmd.valid = true →
            t.ctl.request =
              if s.ctl.request < up then up
              else if down < s.ctl.request then down
              else s.ctl.request)
        ∧ (s.dmd.valid = false → t.ctl.request = 1)

/-- O29. WORD_CLOSE: the trim and the share-limit run of ACTIVE, and in every state the share value,
the accumulator and the last current max (R143, R144, R145, R146, R147). -/
def Obligations.WordCloseTrimsTheShare : Prop :=
  ∀ (s : State), s.frame.takingPart = true → s.exch.wordOpen = true → s.exch.closeDue = true →
      let c := s.port.config
      let step := c.trimStep.toNat
      let top := (fieldResult 10 s.exch.current.bits).toNat
      ∃ t, exec .wordClose s = .next t
        ∧ (s.ctl.state = .active →
            (∀ own : Reading, s.exch.damaged = false → s.exch.current.contended = true →
              s.exch.current.value = some own →
              t.meas.trim =
                if s.exch.current.contending then s.meas.trim - step
                else if own.toNat + c.shareBand.toNat < top then
                  min c.trimLimit.toNat (s.meas.trim + step)
                else s.meas.trim)
            ∧ (s.exch.damaged = true ∨ s.exch.current.contended = false → t.meas.trim = s.meas.trim)
            ∧ (t.meas.trim ≠ c.trimLimit.toNat → t.meas.limitRun = 0)
            ∧ (t.meas.trim = c.trimLimit.toNat → s.meas.limitRun < 7 →
                t.meas.limitRun = s.meas.limitRun + 1)
            ∧ (t.meas.trim = c.trimLimit.toNat → s.meas.limitRun = 7 →
                t.meas.limitRun = 0 ∧ t.flagSet .shareLimit = true))
        ∧ (s.ctl.state ≠ .active → s.ctl.state ≠ .check →
            t.meas.trim = s.meas.trim ∧ t.meas.limitRun = s.meas.limitRun)
        ∧ (s.ctl.state ≠ .active → s.meas.trim = 0 → s.meas.limitRun = 0 →
            t.meas.trim = 0 ∧ t.meas.limitRun = 0)
        ∧ t.meas.share = BitVec.ofNat 10 (s.meas.accSum / s.meas.accCount)
        ∧ t.meas.accSum = 0 ∧ t.meas.accCount = 0
        ∧ (s.ctl.state ≠ .check →
            t.meas.shareValid = s.meas.wholeWord ∧ t.meas.wholeWord = s.meas.wholeWord)
        ∧ (s.meas.wholeWord = false → t.meas.shareValid = false ∧ t.meas.wholeWord = false)
        ∧ t.meas.lastMax =
          (if s.exch.damaged then s.meas.lastMax else fieldResult 10 s.exch.current.bits)

/-- O30. WARM_UP_COMPLETE leads to ACTIVE in the set and to PARKED out of it (R106, R112, R116,
R126, R143). -/
def Obligations.WarmUpCompleteEndsTheWarmUp : Prop :=
  ∀ (s : State), s.ctl.state = .warming → s.frame.counter = 0 →
    s.port.config.warmFrames.toNat ≤ s.ctl.warmCount →
      (s.roster.inSet = true →
        ∃ g m, exec .warmUpComplete s
            = .next
              { s with
                gen := g
                meas := m
                ctl :=
                  { s.ctl with
                    state := .active, decided := none, shedRun := 0, warmCount := 0, holdCount := 0
                    cold := false } }
          ∧ g.ramp = 0 ∧ g.duty = 0 ∧ g.ocRun = 0 ∧ g.hg = s.gen.hg
          ∧ (g.lg = true ↔ s.gen.lg = true ∨ (s.gen.hg = false ∧ g.leadWindow = false ∧ g.deadTimer = none))
          ∧ (s.frame.index ≠ some 0 →
              m = s.meas ∧ g.rank = s.gen.rank ∧ g.nActive = s.gen.nActive ∧ g.onPoint = s.gen.onPoint)
          ∧ (s.frame.index = some 0 →
              m = { s.meas with wholeWord := true } ∧ g.rank = s.roster.rank
              ∧ g.nActive = some s.roster.nActive
              ∧ (∀ r, s.roster.rank = some r →
                  g.onPoint =
                    if r < s.roster.nActive then some (r * s.frameLen / s.roster.nActive) else none)))
      ∧ (s.roster.inSet = false →
        exec .warmUpComplete s
          = .next
            { s with
              gen :=
                { s.gen with
                  onPoint := none, leadWindow := false, duty := 0, ramp := 0, ocRun := 0
                  inFlight := false, remaining := 0, hg := false, lg := false
                  deadTimer := if s.gen.hg = true ∨ s.gen.lg = true then some 0 else s.gen.deadTimer }
              meas :=
                { s.meas with trim := 0, shareValid := false, wholeWord := false, limitRun := 0 }
              ctl :=
                { s.ctl with
                  state := .parked, decided := none, shedRun := 0, warmCount := 0, holdCount := 0
                  cold := false, bias := false } })

/-- O31. LEAD_POINT, PULSE_END and DEAD_TIME_RUN_OUT switch the gates with the dead time between
them (R117, R118, R120, R121, R129). -/
def Obligations.GateEdgesKeepTheDeadTime : Prop :=
  (∀ (s : State) (p : Nat), s.gen.onPoint = some p → s.ctl.state = .active → s.gen.leadTaken = false →
      s.frame.counter = (if s.dead ≤ p then p - s.dead else s.frameLen - s.dead + p) →
        exec .leadPoint s
          = .next
            { s with
              gen :=
                { s.gen with
                  lg := false
                  deadTimer := if s.gen.lg then some 0 else s.gen.deadTimer
                  leadWindow := true
                  leadTaken := true } })
  ∧ (∀ (s : State),
      (s.gen.inFlight = true → s.gen.hg = true → s.gen.remaining = 0 →
        exec .pulseEnd s
          = .next
            { s with
              gen := { s.gen with hg := false, inFlight := false, deadTimer := some 0, ocRun := 0 } })
      ∧ (s.ctl.state = .active → s.gen.deadTimer = none → s.gen.leadWindow = false → s.gen.hg = false →
          s.gen.lg = false →
          exec .deadTimeRunOut s = .next { s with gen := { s.gen with lg := true } }))

/-- O32. ON_POINT latches the duty and starts a due pulse in a lead window, with both gates off, the
dead time run out and no refusal by OCI (R114, R115, R119, R120, R121, R122, R128, R131). -/
def Obligations.OnPointStartsThePulse : Prop :=
  (∀ (s : State) (p : Nat), s.gen.onPoint = some p → s.ctl.state = .active → s.gen.onTaken = false →
      s.frame.counter = p →
        let target := min s.dutyMax (s.dmd.lastGood.toNat * s.frameLen / 1024 + s.meas.trim)
        let duty := min target s.gen.ramp
        8 ≤ duty → s.gen.hg = false → s.gen.lg = false → s.gen.deadTimer = none →
          s.gen.leadWindow = true → s.gen.oci.level ≠ some true →
            exec .onPoint s
              = .next
                { s with
                  gen :=
                    { s.gen with
                      onTaken := true, leadWindow := false, duty := duty, hg := true, inFlight := true
                      remaining := duty, pulseDuty := duty, triggered := false } })
  ∧ (∀ (s : State) (p : Nat), s.gen.onPoint = some p → s.ctl.state = .active → s.gen.onTaken = false →
      s.frame.counter = p →
        let target := min s.dutyMax (s.dmd.lastGood.toNat * s.frameLen / 1024 + s.meas.trim)
        let duty := min target s.gen.ramp
        let latched : PhaseGenerator := { s.gen with onTaken := true, leadWindow := false, duty := duty }
        (duty < 8 ∨ s.gen.hg = true ∨ s.gen.lg = true ∨ s.gen.deadTimer ≠ none
            ∨ s.gen.leadWindow = false →
          exec .onPoint s
            = .next
              { s with
                gen := { latched with lg := s.gen.lg || (!s.gen.hg && s.gen.deadTimer.isNone) } })
        ∧ (8 ≤ duty → s.gen.hg = false → s.gen.lg = false → s.gen.deadTimer = none →
            s.gen.leadWindow = true → s.gen.oci.level = some true → s.gen.ocRun + 1 < s.port.config.ocRun.toNat →
            exec .onPoint s
              = .next { s with gen := { latched with lg := true, ocRun := s.gen.ocRun + 1 } }))

/-- O33. A current request that finds a current conversion in progress is not taken (R142). -/
def Obligations.CurrentRequestDuringACurrentConversionIsDropped : Prop :=
  ∀ (s : State) (c : Conversion), s.gen.inFlight = true → s.gen.triggered = false →
    s.gen.remaining + s.gen.pulseDuty / 2 = s.gen.pulseDuty → 16 ≤ s.gen.pulseDuty →
    s.ctl.state = .active → s.meas.conv = some c → c.channel = .isns →
      exec .currentTrigger s = .next { s with gen := { s.gen with triggered := true } }

/-- O34. OCI_ASSERT cuts a pulse in flight and counts a truncated frame in ACTIVE (R117, R127, R128,
R129). -/
def Obligations.OciAssertCutsThePulse : Prop :=
  ∀ (s : State), s.started = true → s.gen.oci.level = some false →
    let high : Filter := ⟨2, true, some true⟩
    let off := if s.gen.hg then some 0 else s.gen.deadTimer
    (s.gen.inFlight = false → s.gen.owedCut = false ∨ s.ctl.state ≠ .fault →
        exec .ociAssert s = .next { s with gen := { s.gen with oci := high } })
    ∧ (s.gen.inFlight = true → s.ctl.state ≠ .active →
        exec .ociAssert s
          = .next
            { s with
              gen :=
                { s.gen with oci := high, hg := false, inFlight := false, remaining := 0, deadTimer := off } })
    ∧ (s.gen.inFlight = true → s.ctl.state = .active → s.gen.ocRun + 1 < s.port.config.ocRun.toNat →
        exec .ociAssert s
          = .next
            { s with
              gen :=
                { s.gen with
                  oci := high, hg := false, inFlight := false, remaining := 0, deadTimer := off
                  ocRun := s.gen.ocRun + 1 } })

/-- O35. The truncation completing the OC-run declares OVERCURRENT; after a fault of the instant a
second cause, after an aside nothing (log 20; log 22: model's choice) (R88, R89, R92, R125, R128,
R129, R130, logs 20 and 22 (notes/assumptions)). -/
def Obligations.TruncatedRunDeclaresOvercurrent : Prop :=
  (∀ (s : State) (c : Instr), s.ctl.state = .active → s.port.config.ocRun.toNat ≤ s.gen.ocRun + 1 →
      (c = .ociAssert ∧ s.gen.oci.level = some false ∧ s.gen.inFlight = true)
        ∨ (c = .onPoint ∧ s.gen.onPoint = some s.frame.counter ∧ s.gen.onTaken = false
          ∧ 8 ≤ min (min s.dutyMax (s.dmd.lastGood.toNat * s.frameLen / 1024 + s.meas.trim)) s.gen.ramp
          ∧ s.gen.hg = false ∧ s.gen.lg = false ∧ s.gen.deadTimer = none ∧ s.gen.leadWindow = true
          ∧ s.gen.oci.level = some true) →
        ∃ g m, exec c s
            = .next
              { s with
                gen := g
                meas := m
                ctl :=
                  { s.ctl with
                    state := .fault, decided := none, faultCause := some .overcurrent, announce := 2
                    haltWord := false, shedRun := 0, warmCount := 0, holdCount := 0, cold := false
                    bias := true }
                port := s.port.raise .overcurrent }
          ∧ g.hg = false ∧ g.lg = false ∧ g.inFlight = false ∧ g.remaining = 0 ∧ g.onPoint = none
          ∧ g.ramp = 0 ∧ g.duty = 0 ∧ g.ocRun = 0 ∧ g.leadWindow = false
          ∧ m = { s.meas with
                  trim := 0, shareValid := false, wholeWord := false, limitRun := 0
                  pace := ⟨false, 0⟩, freeFrames := 0 })
  ∧ (∀ (s t : State) (c : Instr), exec c s = .next t → s.ctl.state = .active → s.gen.inFlight = true →
      s.port.config.ocRun.toNat ≤ s.gen.ocRun + 1 → s.gen.oci.level = some false →
        (t.ctl.state = .fault →
          ∃ u, exec .ociAssert t = .next u ∧ u.ctl = t.ctl ∧ u.flagSet .overcurrent = true
            ∧ u.gen.hg = false ∧ u.gen.lg = false)
        ∧ (t.ctl.state = .aside →
          exec .ociAssert t = .next { t with gen := { t.gen with oci := ⟨2, true, some true⟩ } }))
  ∧ (∀ (s t : State) (c : Instr), exec c s = .next t → s.ctl.state = .active →
      s.port.config.ocRun.toNat ≤ s.gen.ocRun + 1 → s.gen.onPoint = some s.frame.counter →
      s.gen.onTaken = false →
      8 ≤ min (min s.dutyMax (s.dmd.lastGood.toNat * s.frameLen / 1024 + s.meas.trim)) s.gen.ramp →
      s.gen.hg = false → s.gen.lg = false → s.gen.deadTimer = none → s.gen.leadWindow = true →
      s.gen.oci.level = some true →
        (t.ctl.state = .fault →
          ∃ u, exec .onPoint t = .next u ∧ u.ctl = t.ctl ∧ u.flagSet .overcurrent = true
            ∧ u.gen.hg = false ∧ u.gen.lg = false)
        ∧ (t.ctl.state = .aside → exec .onPoint t = .next t))
  ∧ (∀ (s : State), s.ctl.state = .fault → s.gen.owedPoint = true →
      let paid : PhaseGenerator := { s.gen with owedPoint := false }
      (s.gen.oci.level ≠ some true → exec .onPoint s = .next { s with gen := paid })
      ∧ (s.gen.oci.level = some true →
          exec .onPoint s = .next { s with gen := paid, port := s.port.raise .overcurrent }))

/-- O36. CURRENT_TRIGGER starts a current conversion, abandons a housekeeping one, and is dropped by
a current one (R131, R134, R141, R142). -/
def Obligations.CurrentTriggerAsksTheConverter : Prop :=
  ∀ (s : State), s.gen.inFlight = true → s.gen.triggered = false →
    s.gen.remaining + s.gen.pulseDuty / 2 = s.gen.pulseDuty →
      let taken : PhaseGenerator := { s.gen with triggered := true }
      let asks := 16 ≤ s.gen.pulseDuty ∧ s.ctl.state = .active
      (asks → (∀ c, s.meas.conv = some c → c.channel ≠ .isns) →
        exec .currentTrigger s
          = .next { s with gen := taken, meas := { s.meas with conv := some ⟨.isns, 0, 0, false⟩ } })
      ∧ (asks → (∃ c, s.meas.conv = some c ∧ c.channel = .isns) →
        exec .currentTrigger s = .next { s with gen := taken })
      ∧ (¬asks → exec .currentTrigger s = .next { s with gen := taken })

/-- O37. CONVERSION_COMPLETE of ISNS adds the code to the accumulator and starts the head of the
queue (R33, R133, R135, R140, R143). -/
def Obligations.CurrentResultJoinsTheAccumulator : Prop :=
  ∀ (s : State) (c : Conversion) (code : Reading), s.started = true → s.meas.conv = some c →
    c.timer = 40 → c.channel = .isns →
      exec (.conversionComplete code) s
        = .next
          { s with
            meas :=
              { s.meas with
                conv := s.meas.queue.head?.map (fun ch => ⟨ch, 0, 0, false⟩)
                accSum := if c.discard then s.meas.accSum else s.meas.accSum + code.toNat
                accCount := if c.discard then s.meas.accCount else s.meas.accCount + 1 } }

/-- O38. CONVERSION_COMPLETE of TSNS: kept, OVERTEMP at TEMP_TRIP, recovery below TEMP_CLEAR (halt
value kept: the model's choice, log 22) (R88, R89, R92, R93, R140, R148, R170, log 22
(notes/assumptions)). -/
def Obligations.TemperatureResultIsCompared : Prop :=
  ∀ (s : State) (c : Conversion) (code : Reading), s.started = true → s.meas.conv = some c →
    c.timer = 40 → c.channel = .tsns →
      let m : MeasurementUnit :=
        { s.meas with
          queue := s.meas.queue.drop 1
          lastTsns := code
          conv := (s.meas.queue.drop 1).head?.map (fun ch => ⟨ch, 0, 0, false⟩) }
      let trips := s.port.config.tempTrip.toNat ≤ code.toNat
      let recovers := code.toNat < s.port.config.tempClear.toNat ∧ s.ctl.state = .fault
        ∧ s.ctl.faultCause = some .overtemp ∧ s.frame.takingPart = false
      (¬trips → ¬recovers → exec (.conversionComplete code) s = .next { s with meas := m })
      ∧ (trips → s.ctl.state = .fault →
          exec (.conversionComplete code) s = .next { s with meas := m, port := s.port.raise .overtemp })
      ∧ (trips → s.ctl.state ≠ .fault →
          ∃ t, exec (.conversionComplete code) s = .next t
            ∧ t.ctl =
              { s.ctl with
                state := .fault, decided := none, faultCause := some .overtemp
                announce := if s.ctl.state = .listen then 0 else 2
                haltWord := false, shedRun := 0, warmCount := 0, holdCount := 0, cold := false
                bias := true }
            ∧ t.port = s.port.raise .overtemp ∧ t.gen.hg = false ∧ t.gen.lg = false
            ∧ t.frame.takingPart = s.frame.takingPart
            ∧ t.meas =
              { m with
                trim := 0, shareValid := false, wholeWord := false, limitRun := 0
                pace := ⟨false, 0⟩, freeFrames := 0 }
            ∧ t.exch = s.exch ∧ t.roster = s.roster ∧ t.dmd = s.dmd)
      ∧ (¬trips → recovers →
          ∃ t, exec (.conversionComplete code) s = .next t
            ∧ t.ctl.state = .listen ∧ t.ctl.faultCause = none ∧ t.ctl.announce = 0
            ∧ t.ctl.causes = s.ctl.causes ∧ t.gen.hg = false ∧ t.gen.lg = false
            ∧ t.roster = ⟨0, 0, 0, 0, 0, none, 1, 0, false, none⟩ ∧ t.meas.pace = ⟨true, 0⟩
            ∧ t.meas.lastTsns = code ∧ t.meas.queue = s.meas.queue.drop 1
            ∧ t.exch.wordNumber = s.exch.wordNumber ∧ t.dmd = s.dmd ∧ t.port = s.port)

/-- O39. CONVERSION_COMPLETE of VSNS: kept, UNDERVOLT below VIN_MIN, removed at VIN_OK (halt value
kept: the model's choice, log 22) (R84, R85, R87, R140, R148, R171, log 22 (notes/assumptions)). -/
def Obligations.VoltageResultIsCompared : Prop :=
  ∀ (s : State) (c : Conversion) (code : Reading), s.started = true → s.meas.conv = some c →
    c.timer = 40 → c.channel = .vsns →
      let m : MeasurementUnit :=
        { s.meas with
          queue := s.meas.queue.drop 1
          lastVsns := code
          conv := (s.meas.queue.drop 1).head?.map (fun ch => ⟨ch, 0, 0, false⟩) }
      let low := code.toNat < s.port.config.vinMin.toNat
      let good := s.port.config.vinOk.toNat ≤ code.toNat
      let added : Controller := { s.ctl with causes := { s.ctl.causes with undervolt := true } }
      (¬low → ¬good → exec (.conversionComplete code) s = .next { s with meas := m })
      ∧ (¬low → good →
          exec (.conversionComplete code) s
            = .next
              { s with
                meas := m, ctl := { s.ctl with causes := { s.ctl.causes with undervolt := false } } })
      ∧ (low → (s.ctl.state = .listen ∨ s.ctl.state = .fault) →
          exec (.conversionComplete code) s
            = .next { s with meas := m, ctl := added, port := s.port.raise .undervolt })
      ∧ (low → s.ctl.state = .aside →
          exec (.conversionComplete code) s
            = .next
              { s with
                meas := m, ctl := { added with decided := none }, port := s.port.raise .undervolt })
      ∧ (low → (s.ctl.state = .check ∨ s.ctl.state.isMember = true) →
          ∃ g, exec (.conversionComplete code) s
              = .next
                { s with
                  gen := g
                  meas := { m with trim := 0, shareValid := false, wholeWord := false, limitRun := 0 }
                  ctl :=
                    { added with
                      state := .aside, decided := none, shedRun := 0, warmCount := 0, holdCount := 0
                      cold := false, bias := true }
                  port := s.port.raise .undervolt }
            ∧ g.hg = false ∧ g.lg = false ∧ g.inFlight = false ∧ g.onPoint = none ∧ g.duty = 0)

/-- O40. HOUSEKEEPING_PACE and FREE_RUN_FRAME count nominal words and make the housekeeping requests
(R2, R136, R137, R138, R139, R140). -/
def Obligations.NominalWordsStepTheTally : Prop :=
  ∀ (s : State),
    let next := s.meas.tally + 1
    let q := s.meas.queue ++ [Channel.tsns, Channel.vsns].filter (fun ch => !s.meas.queue.contains ch)
    let late := Channel.tsns ∈ s.meas.queue ∨ Channel.vsns ∈ s.meas.queue
    let asked : PortUnit := if late then s.port.raise .hkLate else s.port
    let started := match s.meas.conv with
      | some c => some c
      | none => q.head?.map (fun ch => ⟨ch, 0, 0, false⟩)
    (s.ctl.state = .listen → s.meas.pace.running = true → 30 * s.frameLen ≤ s.meas.pace.count →
      (next < s.port.config.hkWords.toNat →
        exec .housekeepingPace s = .next { s with meas := { s.meas with pace := ⟨true, 0⟩, tally := next } })
      ∧ (s.port.config.hkWords.toNat ≤ next →
        exec .housekeepingPace s
          = .next
            { s with
              meas := { s.meas with pace := ⟨true, 0⟩, tally := 0, queue := q, conv := started }
              port := asked }))
    ∧ (s.ctl.state = .fault → s.frame.takingPart = false → s.frameLen ≤ s.frame.counter →
      (s.meas.freeFrames < 29 →
        exec .freeRunFrame s
          = .next
            { s with
              frame := { s.frame with counter := 0 }
              meas := { s.meas with freeFrames := s.meas.freeFrames + 1 } })
      ∧ (s.meas.freeFrames = 29 → next < s.port.config.hkWords.toNat →
        exec .freeRunFrame s
          = .next
            { s with
              frame := { s.frame with counter := 0 }
              meas := { s.meas with freeFrames := 0, tally := next } })
      ∧ (s.meas.freeFrames = 29 → s.port.config.hkWords.toNat ≤ next →
        exec .freeRunFrame s
          = .next
            { s with
              frame := { s.frame with counter := 0 }
              meas := { s.meas with freeFrames := 0, tally := 0, queue := q, conv := started }
              port := asked }))

/-- O41. DMD_ACTIVE_EDGE opens a period and judges a good one, DMD_INACTIVE_EDGE latches the high
time (R150, R151, R152, R153, R155, R157). -/
def Obligations.DemandEdgesCaptureThePeriod : Prop :=
  ∀ (s : State), s.started = true →
    let n := s.dmd.capture
    let opened : DemandMonitor :=
      { s.dmd with filter := ⟨4, true, some true⟩, capture := 0, cond := .opened, timeouts := 0 }
    let judged : DemandMonitor :=
      { opened with
        period := n
        lastGood := if n ≤ s.dmd.high then 1023 else BitVec.ofNat 10 (s.dmd.high * 1024 / n)
        goodRun := min 2 (s.dmd.goodRun + 1)
        badRun := 0 }
    (s.dmd.filter.level = some false → s.dmd.cond ≠ .opened →
      exec .dmdActiveEdge s = .next { s with dmd := opened })
    ∧ (s.dmd.filter.level = some false → s.dmd.cond = .opened → s.port.config.dmdMin.toNat ≤ n →
        n ≤ s.port.config.dmdMax.toNat →
        (s.dmd.valid = true ∨ s.dmd.goodRun = 0 → exec .dmdActiveEdge s = .next { s with dmd := judged })
        ∧ (s.dmd.valid = false → 0 < s.dmd.goodRun →
          exec .dmdActiveEdge s
            = .next
              { s with
                dmd := { judged with valid := true }
                ctl := { s.ctl with causes := { s.ctl.causes with demandLost := false } } }))
    ∧ (s.dmd.filter.level = some true →
      exec .dmdInactiveEdge s
        = .next { s with dmd := { s.dmd with filter := ⟨4, false, some false⟩, high := n } })

/-- O42. A period out of the window and a timeout are bad periods; the second in a row loses the
demand (halt value kept: the model's choice, log 22) (R84, R85, R153, R154, R155, R156, log 22
(notes/assumptions)). -/
def Obligations.BadPeriodsLoseTheDemand : Prop :=
  ∀ (s : State) (c : Instr), s.started = true →
    let n := s.dmd.capture
    let bad : DemandMonitor :=
      { s.dmd with badRun := min 2 (s.dmd.badRun + 1), goodRun := 0 }
    ∀ d : DemandMonitor,
    (c = .dmdActiveEdge ∧ s.dmd.filter.level = some false ∧ s.dmd.cond = .opened
        ∧ (n < s.port.config.dmdMin.toNat ∨ s.port.config.dmdMax.toNat < n)
        ∧ d = { bad with
                filter := ⟨4, true, some true⟩, period := n, capture := 0, cond := .opened
                timeouts := 0 })
      ∨ (c = .dmdTimeout ∧ n = (s.dmd.timeouts + 1) * s.port.config.dmdMax.toNat + 1
        ∧ d = { bad with timeouts := s.dmd.timeouts + 1, cond := .judged }) →
      let added : Controller := { s.ctl with causes := { s.ctl.causes with demandLost := true } }
      let lost : DemandMonitor := { d with valid := false }
      (s.dmd.valid = false ∨ s.dmd.badRun = 0 → exec c s = .next { s with dmd := d })
      ∧ (s.dmd.valid = true → 0 < s.dmd.badRun →
          ((s.ctl.state = .listen ∨ s.ctl.state = .fault) →
            exec c s = .next { s with dmd := lost, ctl := added, port := s.port.raise .demandLost })
          ∧ (s.ctl.state = .aside →
            exec c s
              = .next
                { s with
                  dmd := lost, ctl := { added with decided := none }, port := s.port.raise .demandLost })
          ∧ ((s.ctl.state = .check ∨ s.ctl.state.isMember = true) →
            ∃ g m, exec c s
                = .next
                  { s with
                    dmd := lost
                    gen := g
                    meas := m
                    ctl :=
                      { added with
                        state := .aside, decided := none, shedRun := 0, warmCount := 0, holdCount := 0
                        cold := false, bias := true }
                    port := s.port.raise .demandLost }
              ∧ g.hg = false ∧ g.lg = false ∧ g.inFlight = false ∧ g.onPoint = none
              ∧ m.trim = 0 ∧ m.shareValid = false ∧ m.queue = s.meas.queue ∧ m.conv = s.meas.conv))

/-- O43. The command bytes of IDENT, READ_CONFIG and READ_ROSTER are accepted and fix the data bytes
(unassigned strap bits 0: the model's choice, log 29) (R76, R174, R175, R177, R178, 11.9 Byte
layouts, logs 10 and 29 (notes/assumptions)). -/
def Obligations.ReadCommandBytesFixTheirData : Prop :=
  ∀ (s : State) (x : Straps), s.straps = some x → s.port.awaitRise = false →
    let one := fun (n : Nat) => BitVec.ofNat 8 n
    let begun := fun (cmd : PortCommand) (out : List Byte) =>
      { s with
        port :=
          { s.port with
            marks := none, sdo := some 0x00, txn := some ⟨cmd, .accepted, 1, out, [], 0, 0⟩ } }
    exec (.ident .command) s
        = .next
          (begun .ident
            [0x2E, 0x01, s.unitNumber.extractLsb' 8 8, s.unitNumber.extractLsb' 0 8,
              one (x.code0.toNat + 2 * x.code1.toNat + 4 * x.code2.toNat + 8 * x.auto.toNat
                + 16 * x.pol.toNat)])
      ∧ exec (.readConfig .command) s = .next (begun .readConfig (configBytes s.port.config))
      ∧ exec (.readRoster .command) s
        = .next
          (begun .readRoster
            [s.roster.accepted, s.roster.candidate, one s.roster.agree, one s.roster.checkIndex.toNat,
              one (s.roster.rank.getD 0xFF), one s.roster.nReq, one s.roster.nActive])

/-- O44. A later byte shifts out the result, then the data, then 0x00 (R174, R175). -/
def Obligations.LaterBytesShiftTheResultAndTheData : Prop :=
  ∀ (s : State) (t : Transaction) (sdi : Byte) (k : Byte), s.straps ≠ none → s.port.awaitRise = false →
    s.port.txn = some t → 1 ≤ t.bytes →
      let shifted := fun (out : Byte) =>
        { s with port := { s.port with sdo := some out, txn := some { t with bytes := t.bytes + 1 } } }
      let code : Byte := match t.result with
        | .accepted => 0x80
        | .refusedState => 0x81
        | .unknown => 0x82
        | .invalidConfig n => 0x90 + BitVec.ofNat 8 n
      let data := if t.bytes = 1 then 0x80 else t.out.getD (t.bytes - 2) 0x00
      let dry := if t.bytes = 1 then code else 0x00
      (t.result = .accepted →
        (t.cmd = .ident → exec (.ident (.later sdi)) s = .next (shifted data))
        ∧ (t.cmd = .readConfig → exec (.readConfig (.later sdi)) s = .next (shifted data))
        ∧ (t.cmd = .readRoster → exec (.readRoster (.later sdi)) s = .next (shifted data))
        ∧ (t.cmd = .readStatus → t.bytes ≠ 2 →
            exec (.readStatus (.later sdi)) s = .next (shifted data))
        ∧ (t.cmd = .readHistory → t.bytes ≠ 2 →
            exec (.readHistory (.later sdi)) s = .next (shifted data)))
      ∧ (t.result ≠ .accepted →
        (t.cmd = .writeConfig → exec (.writeConfig (.later sdi)) s = .next (shifted dry))
        ∧ (t.cmd = .start → exec (.start (.later sdi)) s = .next (shifted dry))
        ∧ (t.cmd = .aside → exec (.aside (.later sdi)) s = .next (shifted dry))
        ∧ (t.cmd = .ret → exec (.ret (.later sdi)) s = .next (shifted dry))
        ∧ (t.cmd = .clearFault → exec (.clearFault (.later sdi)) s = .next (shifted dry))
        ∧ (t.cmd = .unknown → exec (.unknown k (.later sdi)) s = .next (shifted dry)))
      ∧ (t.result = .accepted → 2 ≤ t.bytes → t.out = [] →
        (t.cmd = .start → exec (.start (.later sdi)) s = .next (shifted 0x00))
        ∧ (t.cmd = .aside → exec (.aside (.later sdi)) s = .next (shifted 0x00))
        ∧ (t.cmd = .ret → exec (.ret (.later sdi)) s = .next (shifted 0x00))
        ∧ (t.cmd = .clearFault → exec (.clearFault (.later sdi)) s = .next (shifted 0x00)))

/-- O45. The 48 bytes of a record are its thirty fields in the order of the layout, and 48 bytes are
read back as they were written (R177, 11.9 Byte layouts). -/
def Obligations.ConfigurationLayoutRoundTrips : Prop :=
  (∀ c : ConfigRecord,
    let hi := fun (x : Half) => x.extractLsb' 8 8
    let lo := fun (x : Half) => x.extractLsb' 0 8
    (configBytes c).length = 48
    ∧ configOfBytes (configBytes c) = c
    ∧ configBytes c =
        [ hi c.frameLen, lo c.frameLen, c.dead, hi c.dutyMax, lo c.dutyMax, hi c.sampleAt, lo
          c.sampleAt, hi c.shed1, lo c.shed1, hi c.shed2, lo c.shed2, hi c.shed3, lo c.shed3,
          hi c.shed4, lo c.shed4, hi c.shed5, lo c.shed5, hi c.shed6, lo c.shed6, hi c.shed7,
          lo c.shed7, c.shedHyst, c.rosterDepth, c.trimStep, c.trimLimit, c.shareBand, c.ramp,
          c.holdWords, hi c.warmFrames, lo c.warmFrames, c.parkWords, c.ocRun, c.lagMax,
          c.hkWords, hi c.tempTrip, lo c.tempTrip, hi c.tempClear, lo c.tempClear, hi
          c.vinMin, lo c.vinMin, hi c.vinOk, lo c.vinOk, hi c.dmdMin, lo c.dmdMin, hi
          c.dmdMax, lo c.dmdMax, hi c.alertMask, lo c.alertMask ])
  ∧ ∀ d : List Byte, d.length = 48 → configBytes (configOfBytes d) = d

/-- O46. WRITE_CONFIG is accepted in SETUP with AUTO low and replaces the record at its 48th data
byte (R174, R176, R177). -/
def Obligations.WriteConfigReplacesTheRecord : Prop :=
  ∀ (s : State) (x : Straps), s.straps = some x → s.port.awaitRise = false →
    (let allowed := s.ctl.state = .setup ∧ x.auto = false;
      exec (.writeConfig .command) s
        = .next
          { s with
            port :=
              { s.port with
                marks := none
                sdo := some 0x00
                txn :=
                  some ⟨.writeConfig, if allowed then .accepted else .refusedState, 1, [], [], 0, 0⟩ } })
    ∧ ∀ (t : Transaction) (sdi : Byte), s.port.txn = some t → t.cmd = .writeConfig →
        t.result = .accepted → t.out = [] → 1 ≤ t.bytes →
        let shifted : Transaction := { t with bytes := t.bytes + 1 }
        let kept : Transaction := { shifted with received := t.received ++ [sdi] }
        (t.bytes = 1 →
          exec (.writeConfig (.later sdi)) s
            = .next { s with port := { s.port with sdo := some 0x80, txn := some shifted } })
        ∧ (2 ≤ t.bytes → t.bytes < 49 →
          exec (.writeConfig (.later sdi)) s
            = .next { s with port := { s.port with sdo := some 0x00, txn := some kept } })
        ∧ (t.bytes = 49 → s.ctl.state = .setup →
          exec (.writeConfig (.later sdi)) s
            = .next
              { s with
                port :=
                  { s.port with
                    sdo := some 0x00, txn := some kept, config := configOfBytes (t.received ++ [sdi]) } })
        ∧ (50 ≤ t.bytes →
          exec (.writeConfig (.later sdi)) s
            = .next { s with port := { s.port with sdo := some 0x00, txn := some shifted } })

/-- O47. START makes the eight checks in order, and an accepted one enters LISTEN at its result byte
(R80, R138, R175, R176, R179). -/
def Obligations.StartTestsTheRecordAndEntersListen : Prop :=
  ∀ (s : State) (x : Straps), s.straps = some x → s.port.awaitRise = false →
    (let c := s.port.config
      let isIn := fun (n lo hi : Nat) => decide (lo ≤ n) && decide (n ≤ hi)
      let sheds :=
        [c.shed1.toNat, c.shed2.toNat, c.shed3.toNat, c.shed4.toNat, c.shed5.toNat, c.shed6.toNat,
          c.shed7.toNat]
      let ranges :=
        isIn c.frameLen.toNat 256 4095 && isIn c.dead.toNat 4 63 && isIn c.dutyMax.toNat 16 4095
        && isIn c.sampleAt.toNat 64 4095 && sheds.all (fun n => isIn n 0 1023)
        && isIn c.shedHyst.toNat 0 127 && (c.rosterDepth == 2 || c.rosterDepth == 4)
        && isIn c.trimStep.toNat 1 15 && isIn c.trimLimit.toNat 0 255 && isIn c.shareBand.toNat 0 63
        && isIn c.ramp.toNat 1 63 && isIn c.holdWords.toNat 1 4 && isIn c.warmFrames.toNat 16 1023
        && isIn c.parkWords.toNat 0 255 && isIn c.ocRun.toNat 1 15 && isIn c.lagMax.toNat 8 255
        && isIn c.hkWords.toNat 1 16 && isIn c.tempTrip.toNat 0 1023 && isIn c.tempClear.toNat 0 1023
        && isIn c.vinMin.toNat 0 1023 && isIn c.vinOk.toNat 0 1023 && isIn c.dmdMin.toNat 64 16383
        && isIn c.dmdMax.toNat 64 16383 && isIn c.alertMask.toNat 0 0x1FFF
      let checks : List Bool :=
        [ ranges,
          decide (c.dutyMax.toNat + 2 * c.dead.toNat + 64 ≤ c.frameLen.toNat),
          decide (c.sampleAt.toNat + 6 + 8 < c.frameLen.toNat),
          decide (c.shed1.toNat ≤ c.shed2.toNat) && decide (c.shed2.toNat ≤ c.shed3.toNat)
            && decide (c.shed3.toNat ≤ c.shed4.toNat) && decide (c.shed4.toNat ≤ c.shed5.toNat)
            && decide (c.shed5.toNat ≤ c.shed6.toNat) && decide (c.shed6.toNat ≤ c.shed7.toNat),
          decide (c.tempClear.toNat < c.tempTrip.toNat),
          decide (c.vinMin.toNat < c.vinOk.toNat),
          decide (c.dmdMin.toNat < c.dmdMax.toNat),
          decide (2 * (c.dutyMax.toNat / 2 + 48) ≤ c.frameLen.toNat) ];
      exec (.start .command) s
        = .next
          { s with
            port :=
              { s.port with
                marks := none
                sdo := some 0x00
                txn :=
                  some
                    ⟨.start,
                      if s.ctl.state = .setup ∧ x.auto = false then
                        (if checks.all id then .accepted
                         else .invalidConfig (checks.findIdx (fun b => !b) + 1))
                      else .refusedState,
                      1, [], [], 0, 0⟩ } })
    ∧ ∀ (t : Transaction) (sdi : Byte), s.port.txn = some t → t.cmd = .start → t.result = .accepted →
        t.bytes = 1 → s.ctl.state = .setup →
        exec (.start (.later sdi)) s
          = .next
            { s with
              ctl := { s.ctl with state := .listen }
              meas := { s.meas with pace := ⟨true, 0⟩ }
              port := { s.port with sdo := some 0x80, txn := some { t with bytes := 2 } } }

/-- O48. READ_STATUS fixes its 28 bytes and, at its first data byte, clears what it showed and was
not raised since (its instant: log 14; unassigned bits 0: log 29) (R160, R174, R181, 11.9 Byte
layouts, logs 14 and 29 (notes/assumptions)). -/
def Obligations.StatusReadShowsAndClearsTheFlags : Prop :=
  ∀ (s : State) (x : Straps), s.straps = some x → s.port.awaitRise = false →
    (let one := fun (n : Nat) => ([BitVec.ofNat 8 n] : List Byte)
      let two := fun (n : Nat) =>
        ([(BitVec.ofNat 16 n).extractLsb' 8 8, (BitVec.ofNat 16 n).extractLsb' 0 8] : List Byte)
      let cause := match s.ctl.faultCause with
        | none => 0
        | some .duplicate => 1
        | some .overcurrent => 2
        | some .overtemp => 3
      let causes := s.ctl.causes.demandLost.toNat + 2 * s.ctl.causes.undervolt.toNat
        + 4 * s.ctl.causes.commanded.toNat
      let out := one s.ctl.state.number ++ one causes ++ one cause ++ one s.ctl.announce ++ one x.code
        ++ one (s.roster.rank.getD 0xFF) ++ one s.roster.nActive ++ two s.dmd.lastGood.toNat
        ++ one s.dmd.valid.toNat ++ two s.meas.share.toNat ++ one s.meas.shareValid.toNat
        ++ two s.meas.lastMax.toNat ++ one s.meas.trim ++ two s.gen.duty ++ two s.gen.ramp
        ++ two s.meas.lastTsns.toNat ++ two s.meas.lastVsns.toNat ++ two s.exch.wordNumber.toNat
        ++ two s.port.flags.toNat;
      out.length = 28
      ∧ exec (.readStatus .command) s
        = .next
          { s with
            port :=
              { s.port with
                marks := some s.port.raisedNow
                sdo := some 0x00
                txn := some ⟨.readStatus, .accepted, 1, out, [], s.port.flags, 0⟩ } })
    ∧ ∀ (t : Transaction) (sdi : Byte) (m : FlagSet), s.port.txn = some t → t.cmd = .readStatus →
        t.result = .accepted → t.bytes = 2 → s.port.marks = some m →
        ∃ fs, exec (.readStatus (.later sdi)) s
            = .next
              { s with
                port :=
                  { s.port with
                    flags := fs, marks := none, sdo := some (t.out.getD 0 0x00)
                    txn := some { t with bytes := 3 } } }
          ∧ ∀ i : Nat, fs.getLsbD i = (s.port.flags.getLsbD i && (!t.shown.getLsbD i || m.getLsbD i))

/-- O49. A raise sets the flag and, during a status read, its mark; ALERT follows the flags and the
mask (R180, R181, R184). -/
def Obligations.RaiseSetsTheFlagAndItsMark : Prop :=
  ∀ (s : State) (f g : Flag),
    ((s.raise f).flagSet g = (s.flagSet g || decide (f = g)))
    ∧ (∀ m, s.port.marks = some m →
        ∃ m', (s.raise f).port.marks = some m'
          ∧ m'.getLsbD g.number = (m.getLsbD g.number || decide (f = g)))
    ∧ (s.port.marks = none → (s.raise f).port.marks = none)
    ∧ (s.alert = true ↔ ∃ h, s.flagSet h = true ∧ s.port.config.alertMask.getLsbD h.number = true)

/-- O50. READ_HISTORY returns the held records, oldest first, and removes them at its count byte
(unassigned presence bits 0: the model's choice, log 29) (R182, R183, 11.9 Byte layouts, log 29
(notes/assumptions)). -/
def Obligations.HistoryReadReturnsAndRemovesTheRecords : Prop :=
  ∀ (s : State), s.straps ≠ none → s.port.awaitRise = false →
    (let bytes := fun (r : WordRecord) =>
        ([ r.wordNumber.extractLsb' 8 8, r.wordNumber.extractLsb' 0 8,
           BitVec.ofNat 8 (r.damaged.toNat + 2 * r.ownShare.isSome.toNat
             + 4 * (r.won == some true).toNat),
           (match r.halt with | .zero => 0 | .one => 1 | .unsettled => 2),
           r.observedMap.getD 0, (r.phaseResult.getD 0).setWidth 8,
           ((r.currentMax.getD 0).setWidth 16).extractLsb' 8 8,
           ((r.currentMax.getD 0).setWidth 16).extractLsb' 0 8,
           ((r.ownShare.getD 0).setWidth 16).extractLsb' 8 8,
           ((r.ownShare.getD 0).setWidth 16).extractLsb' 0 8,
           r.rosterAfter, BitVec.ofNat 8 r.stateAfter.number ] : List Byte);
      exec (.readHistory .command) s
        = .next
          { s with
            port :=
              { s.port with
                marks := none
                sdo := some 0x00
                txn :=
                  some
                    ⟨.readHistory, .accepted, 1,
                      BitVec.ofNat 8 s.port.history.length :: s.port.history.flatMap bytes,
                      [], 0, s.port.history.length⟩ } })
    ∧ ∀ (t : Transaction) (sdi : Byte), s.port.txn = some t → t.cmd = .readHistory →
        t.result = .accepted → t.bytes = 2 →
        exec (.readHistory (.later sdi)) s
          = .next
            { s with
              port :=
                { s.port with
                  history := s.port.history.drop t.returned
                  sdo := some (t.out.getD 0 0x00)
                  txn := some { t with bytes := 3, returned := 0 } } }

/-- O51. ASIDE sets the commanded-aside flag and RETURN clears it, each at its result byte (halt
value kept: the model's choice, log 22) (R84, R85, R87, R174, R176, log 22 (notes/assumptions)). -/
def Obligations.AsideAndReturnMoveTheCommandedFlag : Prop :=
  ∀ (s : State), s.straps ≠ none → s.port.awaitRise = false →
    (let result := if s.ctl.state = .setup then ResultCode.refusedState else .accepted
      let begun := fun (cmd : PortCommand) =>
        { s with
          port := { s.port with marks := none, sdo := some 0x00, txn := some ⟨cmd, result, 1, [], [], 0, 0⟩ } };
      exec (.aside .command) s = .next (begun .aside) ∧ exec (.ret .command) s = .next (begun .ret))
    ∧ ∀ (t : Transaction) (sdi : Byte), s.port.txn = some t → t.result = .accepted → t.bytes = 1 →
        let p : PortUnit := { s.port with sdo := some 0x80, txn := some { t with bytes := 2 } }
        let added : Controller := { s.ctl with causes := { s.ctl.causes with commanded := true } }
        (t.cmd = .ret →
          exec (.ret (.later sdi)) s
            = .next
              { s with
                port := p, ctl := { s.ctl with causes := { s.ctl.causes with commanded := false } } })
        ∧ (t.cmd = .aside → s.ctl.causes.commanded = true →
          exec (.aside (.later sdi)) s = .next { s with port := p })
        ∧ (t.cmd = .aside → s.ctl.causes.commanded = false →
            (s.ctl.state = .listen ∨ s.ctl.state = .fault) →
          exec (.aside (.later sdi)) s = .next { s with port := p, ctl := added })
        ∧ (t.cmd = .aside → s.ctl.causes.commanded = false → s.ctl.state = .aside →
          exec (.aside (.later sdi)) s = .next { s with port := p, ctl := { added with decided := none } })
        ∧ (t.cmd = .aside → s.ctl.causes.commanded = false →
            (s.ctl.state = .check ∨ s.ctl.state.isMember = true) →
          ∃ g m, exec (.aside (.later sdi)) s
              = .next
                { s with
                  port := p
                  gen := g
                  meas := m
                  ctl :=
                    { added with
                      state := .aside, decided := none, shedRun := 0, warmCount := 0, holdCount := 0
                      cold := false, bias := true } }
            ∧ g.hg = false ∧ g.lg = false ∧ g.inFlight = false ∧ g.onPoint = none ∧ m.trim = 0
            ∧ m.shareValid = false ∧ m.queue = s.meas.queue ∧ m.conv = s.meas.conv)

/-- O52. CLEAR_FAULT is accepted with nothing left to announce, and rejoins at its result byte (R30,
R31, R32, R33, R94, log 23 (notes/assumptions)). -/
def Obligations.ClearFaultRejoins : Prop :=
  ∀ (s : State), s.straps ≠ none → s.port.awaitRise = false →
    (let allowed := s.ctl.state = .fault ∧ s.ctl.announce = 0
        ∧ (s.ctl.faultCause = some .duplicate ∨ s.ctl.faultCause = some .overcurrent);
      exec (.clearFault .command) s
        = .next
          { s with
            port :=
              { s.port with
                marks := none
                sdo := some 0x00
                txn :=
                  some ⟨.clearFault, if allowed then .accepted else .refusedState, 1, [], [], 0, 0⟩ } })
    ∧ ∀ (t : Transaction) (sdi : Byte), s.port.txn = some t → t.cmd = .clearFault →
        t.result = .accepted → t.bytes = 1 →
        let gates : PhaseGenerator :=
          { s.gen with
            rank := none, nActive := none, onPoint := none, leadWindow := false, duty := 0, ramp := 0
            ocRun := 0, inFlight := false, remaining := 0, hg := false, lg := false
            owedCut := false, owedPoint := false
            deadTimer := if s.gen.hg = true ∨ s.gen.lg = true then some 0 else s.gen.deadTimer }
        let measured : MeasurementUnit :=
          { s.meas with
            conv := s.meas.conv.map (fun c => { c with discard := c.discard || c.channel == .isns })
            share := 0, shareValid := false, accSum := 0, accCount := 0, wholeWord := false, trim := 0
            limitRun := 0, lastMax := 0, pace := ⟨true, 0⟩, freeFrames := 0 }
        let listener : Controller :=
          { s.ctl with
            state := .listen, decided := none, faultCause := none, announce := 0, haltWord := false
            shedRun := 0, warmCount := 0, holdCount := 0, cold := false, bias := true }
        let word : ExchangeUnit :=
          { ExchangeUnit.reset with wordNumber := s.exch.wordNumber, driven := s.exch.driven }
        exec (.clearFault (.later sdi)) s
          = .next
            { s with
              frame :=
                { s.frame with
                  takingPart := false, pulling := false, index := none, ownEnd := false, waitRun := 0
                  checked := false, markThis := false, markLast := false, armed := false
                  fellInListen := false, declared := false
                  quietTimer := ⟨s.frame.filter.level == some true, 0⟩
                  stuckTimer := ⟨s.frame.filter.level == some false, 0⟩ }
              exch := word, gen := gates, meas := measured, ctl := listener
              roster := ⟨0, 0, 0, 0, 0, none, 1, 0, false, none⟩
              port := { s.port with sdo := some 0x80, txn := some { t with bytes := 2 } } }

/-- O53. An unknown command byte gives UNKNOWN, and a cut ends the transaction without an effect
(R174, R175, R181, R183). -/
def Obligations.UnknownBytesAndCutsChangeOnlyThePort : Prop :=
  ∀ (s : State), s.straps ≠ none →
    (∀ k : Byte, s.port.awaitRise = false → k ∉ commandCodes →
      exec (.unknown k .command) s
        = .next
          { s with
            port :=
              { s.port with
                marks := none, sdo := some 0x00
                txn := some ⟨.unknown, .unknown, 1, [], [], 0, 0⟩ } })
    ∧ exec .transactionCut s
        = .next
          { s with port := { s.port with txn := none, marks := none, sdo := none, awaitRise := false } }

/-- O54. The reset state meets every invariant of the station (R57, R77, R132, R149, R159, R185). -/
def Obligations.ResetStateFitsEveryInvariant : Prop :=
  GatesSafe State.reset ∧ StationFits State.reset ∧ ShareFits State.reset ∧ ConverterFits State.reset
    ∧ DemandFits State.reset ∧ HistoryFits State.reset ∧ RosterFits State.reset

/-- O55. HG and LG are never on together, in every step (R117, R121, R123, R126). -/
def Obligations.GatesNeverConductTogether : Prop :=
  ∀ s t : State, GatesSafe s → step s = .next t → GatesSafe t

/-- O56. The barrier and the controller fit together, in every step (R4, R34, R78, R85, R89, R90,
R104, R163). -/
def Obligations.StationKeepsItsPlaceInTheGroup : Prop :=
  ∀ s t : State, StationFits s → step s = .next t → StationFits t

/-- O57. The trim is 0 outside ACTIVE and never passes TRIM_LIMIT, in every step (R143, R146, R147).
-/
def Obligations.TrimStaysWithinItsLimit : Prop :=
  ∀ s t : State, ShareFits s → step s = .next t → ShareFits t

/-- O58. The converter and its queue fit together, in every step (R136, R140, R141). -/
def Obligations.ConverterServesItsQueue : Prop :=
  ∀ s t : State, ConverterFits s → step s = .next t → ConverterFits t

/-- O59. The DEMAND_LOST cause is present exactly while the monitor is LOST, in every step (R155,
R156, R157, R159). -/
def Obligations.DemandCauseFollowsTheMonitor : Prop :=
  ∀ s t : State, DemandFits s → step s = .next t → DemandFits t

/-- O60. The history holds at most eight records; the roster unit is empty in SETUP and LISTEN, and
changes only at a close or an emptying, in every step (R32, R57, R69, R182, R183). -/
def Obligations.HistoryStaysBoundedAndRosterHolds : Prop :=
  (∀ s t : State, HistoryFits s → step s = .next t → HistoryFits t)
  ∧ (∀ s t : State, StationFits s → RosterFits s → step s = .next t → RosterFits t)
  ∧ (∀ s t : State, step s = .next t → t.exch.wordNumber = s.exch.wordNumber →
      (∃ sent, t.roster = { s.roster with sentCheck := sent })
        ∨ t.roster = ⟨0, 0, 0, 0, 0, none, 1, 0, false, none⟩)
end

