-- ==== Sys2Proof/Laws/State.lean ====
section
/-! SUPPORT. What each setter of State does to each field: one simp lemma a field. -/

namespace Sys2Proof.Machine

@[simp] theorem State.setFrame_straps (s : State) (f : FrameUnit) : (s.setFrame f).straps = s.straps := rfl
@[simp] theorem State.setFrame_unitNumber (s : State) (f : FrameUnit) : (s.setFrame f).unitNumber = s.unitNumber := rfl
@[simp] theorem State.setFrame_frame (s : State) (f : FrameUnit) : (s.setFrame f).frame = f := rfl
@[simp] theorem State.setFrame_exch (s : State) (f : FrameUnit) : (s.setFrame f).exch = s.exch := rfl
@[simp] theorem State.setFrame_roster (s : State) (f : FrameUnit) : (s.setFrame f).roster = s.roster := rfl
@[simp] theorem State.setFrame_ctl (s : State) (f : FrameUnit) : (s.setFrame f).ctl = s.ctl := rfl
@[simp] theorem State.setFrame_gen (s : State) (f : FrameUnit) : (s.setFrame f).gen = s.gen := rfl
@[simp] theorem State.setFrame_meas (s : State) (f : FrameUnit) : (s.setFrame f).meas = s.meas := rfl
@[simp] theorem State.setFrame_dmd (s : State) (f : FrameUnit) : (s.setFrame f).dmd = s.dmd := rfl
@[simp] theorem State.setFrame_port (s : State) (f : FrameUnit) : (s.setFrame f).port = s.port := rfl
@[simp] theorem State.setFrame_inputs (s : State) (f : FrameUnit) : (s.setFrame f).inputs = s.inputs := rfl
@[simp] theorem State.setFrame_choices (s : State) (f : FrameUnit) : (s.setFrame f).choices = s.choices := rfl
@[simp] theorem State.setFrame_pending (s : State) (f : FrameUnit) : (s.setFrame f).pending = s.pending := rfl

@[simp] theorem State.setExch_straps (s : State) (e : ExchangeUnit) : (s.setExch e).straps = s.straps := rfl
@[simp] theorem State.setExch_unitNumber (s : State) (e : ExchangeUnit) : (s.setExch e).unitNumber = s.unitNumber := rfl
@[simp] theorem State.setExch_frame (s : State) (e : ExchangeUnit) : (s.setExch e).frame = s.frame := rfl
@[simp] theorem State.setExch_exch (s : State) (e : ExchangeUnit) : (s.setExch e).exch = e := rfl
@[simp] theorem State.setExch_roster (s : State) (e : ExchangeUnit) : (s.setExch e).roster = s.roster := rfl
@[simp] theorem State.setExch_ctl (s : State) (e : ExchangeUnit) : (s.setExch e).ctl = s.ctl := rfl
@[simp] theorem State.setExch_gen (s : State) (e : ExchangeUnit) : (s.setExch e).gen = s.gen := rfl
@[simp] theorem State.setExch_meas (s : State) (e : ExchangeUnit) : (s.setExch e).meas = s.meas := rfl
@[simp] theorem State.setExch_dmd (s : State) (e : ExchangeUnit) : (s.setExch e).dmd = s.dmd := rfl
@[simp] theorem State.setExch_port (s : State) (e : ExchangeUnit) : (s.setExch e).port = s.port := rfl
@[simp] theorem State.setExch_inputs (s : State) (e : ExchangeUnit) : (s.setExch e).inputs = s.inputs := rfl
@[simp] theorem State.setExch_choices (s : State) (e : ExchangeUnit) : (s.setExch e).choices = s.choices := rfl
@[simp] theorem State.setExch_pending (s : State) (e : ExchangeUnit) : (s.setExch e).pending = s.pending := rfl

@[simp] theorem State.setRoster_straps (s : State) (r : RosterUnit) : (s.setRoster r).straps = s.straps := rfl
@[simp] theorem State.setRoster_unitNumber (s : State) (r : RosterUnit) : (s.setRoster r).unitNumber = s.unitNumber := rfl
@[simp] theorem State.setRoster_frame (s : State) (r : RosterUnit) : (s.setRoster r).frame = s.frame := rfl
@[simp] theorem State.setRoster_exch (s : State) (r : RosterUnit) : (s.setRoster r).exch = s.exch := rfl
@[simp] theorem State.setRoster_roster (s : State) (r : RosterUnit) : (s.setRoster r).roster = r := rfl
@[simp] theorem State.setRoster_ctl (s : State) (r : RosterUnit) : (s.setRoster r).ctl = s.ctl := rfl
@[simp] theorem State.setRoster_gen (s : State) (r : RosterUnit) : (s.setRoster r).gen = s.gen := rfl
@[simp] theorem State.setRoster_meas (s : State) (r : RosterUnit) : (s.setRoster r).meas = s.meas := rfl
@[simp] theorem State.setRoster_dmd (s : State) (r : RosterUnit) : (s.setRoster r).dmd = s.dmd := rfl
@[simp] theorem State.setRoster_port (s : State) (r : RosterUnit) : (s.setRoster r).port = s.port := rfl
@[simp] theorem State.setRoster_inputs (s : State) (r : RosterUnit) : (s.setRoster r).inputs = s.inputs := rfl
@[simp] theorem State.setRoster_choices (s : State) (r : RosterUnit) : (s.setRoster r).choices = s.choices := rfl
@[simp] theorem State.setRoster_pending (s : State) (r : RosterUnit) : (s.setRoster r).pending = s.pending := rfl

@[simp] theorem State.setCtl_straps (s : State) (c : Controller) : (s.setCtl c).straps = s.straps := rfl
@[simp] theorem State.setCtl_unitNumber (s : State) (c : Controller) : (s.setCtl c).unitNumber = s.unitNumber := rfl
@[simp] theorem State.setCtl_frame (s : State) (c : Controller) : (s.setCtl c).frame = s.frame := rfl
@[simp] theorem State.setCtl_exch (s : State) (c : Controller) : (s.setCtl c).exch = s.exch := rfl
@[simp] theorem State.setCtl_roster (s : State) (c : Controller) : (s.setCtl c).roster = s.roster := rfl
@[simp] theorem State.setCtl_ctl (s : State) (c : Controller) : (s.setCtl c).ctl = c := rfl
@[simp] theorem State.setCtl_gen (s : State) (c : Controller) : (s.setCtl c).gen = s.gen := rfl
@[simp] theorem State.setCtl_meas (s : State) (c : Controller) : (s.setCtl c).meas = s.meas := rfl
@[simp] theorem State.setCtl_dmd (s : State) (c : Controller) : (s.setCtl c).dmd = s.dmd := rfl
@[simp] theorem State.setCtl_port (s : State) (c : Controller) : (s.setCtl c).port = s.port := rfl
@[simp] theorem State.setCtl_inputs (s : State) (c : Controller) : (s.setCtl c).inputs = s.inputs := rfl
@[simp] theorem State.setCtl_choices (s : State) (c : Controller) : (s.setCtl c).choices = s.choices := rfl
@[simp] theorem State.setCtl_pending (s : State) (c : Controller) : (s.setCtl c).pending = s.pending := rfl

@[simp] theorem State.setGen_straps (s : State) (g : PhaseGenerator) : (s.setGen g).straps = s.straps := rfl
@[simp] theorem State.setGen_unitNumber (s : State) (g : PhaseGenerator) : (s.setGen g).unitNumber = s.unitNumber := rfl
@[simp] theorem State.setGen_frame (s : State) (g : PhaseGenerator) : (s.setGen g).frame = s.frame := rfl
@[simp] theorem State.setGen_exch (s : State) (g : PhaseGenerator) : (s.setGen g).exch = s.exch := rfl
@[simp] theorem State.setGen_roster (s : State) (g : PhaseGenerator) : (s.setGen g).roster = s.roster := rfl
@[simp] theorem State.setGen_ctl (s : State) (g : PhaseGenerator) : (s.setGen g).ctl = s.ctl := rfl
@[simp] theorem State.setGen_gen (s : State) (g : PhaseGenerator) : (s.setGen g).gen = g := rfl
@[simp] theorem State.setGen_meas (s : State) (g : PhaseGenerator) : (s.setGen g).meas = s.meas := rfl
@[simp] theorem State.setGen_dmd (s : State) (g : PhaseGenerator) : (s.setGen g).dmd = s.dmd := rfl
@[simp] theorem State.setGen_port (s : State) (g : PhaseGenerator) : (s.setGen g).port = s.port := rfl
@[simp] theorem State.setGen_inputs (s : State) (g : PhaseGenerator) : (s.setGen g).inputs = s.inputs := rfl
@[simp] theorem State.setGen_choices (s : State) (g : PhaseGenerator) : (s.setGen g).choices = s.choices := rfl
@[simp] theorem State.setGen_pending (s : State) (g : PhaseGenerator) : (s.setGen g).pending = s.pending := rfl

@[simp] theorem State.setMeas_straps (s : State) (m : MeasurementUnit) : (s.setMeas m).straps = s.straps := rfl
@[simp] theorem State.setMeas_unitNumber (s : State) (m : MeasurementUnit) : (s.setMeas m).unitNumber = s.unitNumber := rfl
@[simp] theorem State.setMeas_frame (s : State) (m : MeasurementUnit) : (s.setMeas m).frame = s.frame := rfl
@[simp] theorem State.setMeas_exch (s : State) (m : MeasurementUnit) : (s.setMeas m).exch = s.exch := rfl
@[simp] theorem State.setMeas_roster (s : State) (m : MeasurementUnit) : (s.setMeas m).roster = s.roster := rfl
@[simp] theorem State.setMeas_ctl (s : State) (m : MeasurementUnit) : (s.setMeas m).ctl = s.ctl := rfl
@[simp] theorem State.setMeas_gen (s : State) (m : MeasurementUnit) : (s.setMeas m).gen = s.gen := rfl
@[simp] theorem State.setMeas_meas (s : State) (m : MeasurementUnit) : (s.setMeas m).meas = m := rfl
@[simp] theorem State.setMeas_dmd (s : State) (m : MeasurementUnit) : (s.setMeas m).dmd = s.dmd := rfl
@[simp] theorem State.setMeas_port (s : State) (m : MeasurementUnit) : (s.setMeas m).port = s.port := rfl
@[simp] theorem State.setMeas_inputs (s : State) (m : MeasurementUnit) : (s.setMeas m).inputs = s.inputs := rfl
@[simp] theorem State.setMeas_choices (s : State) (m : MeasurementUnit) : (s.setMeas m).choices = s.choices := rfl
@[simp] theorem State.setMeas_pending (s : State) (m : MeasurementUnit) : (s.setMeas m).pending = s.pending := rfl

@[simp] theorem State.setDmd_straps (s : State) (d : DemandMonitor) : (s.setDmd d).straps = s.straps := rfl
@[simp] theorem State.setDmd_unitNumber (s : State) (d : DemandMonitor) : (s.setDmd d).unitNumber = s.unitNumber := rfl
@[simp] theorem State.setDmd_frame (s : State) (d : DemandMonitor) : (s.setDmd d).frame = s.frame := rfl
@[simp] theorem State.setDmd_exch (s : State) (d : DemandMonitor) : (s.setDmd d).exch = s.exch := rfl
@[simp] theorem State.setDmd_roster (s : State) (d : DemandMonitor) : (s.setDmd d).roster = s.roster := rfl
@[simp] theorem State.setDmd_ctl (s : State) (d : DemandMonitor) : (s.setDmd d).ctl = s.ctl := rfl
@[simp] theorem State.setDmd_gen (s : State) (d : DemandMonitor) : (s.setDmd d).gen = s.gen := rfl
@[simp] theorem State.setDmd_meas (s : State) (d : DemandMonitor) : (s.setDmd d).meas = s.meas := rfl
@[simp] theorem State.setDmd_dmd (s : State) (d : DemandMonitor) : (s.setDmd d).dmd = d := rfl
@[simp] theorem State.setDmd_port (s : State) (d : DemandMonitor) : (s.setDmd d).port = s.port := rfl
@[simp] theorem State.setDmd_inputs (s : State) (d : DemandMonitor) : (s.setDmd d).inputs = s.inputs := rfl
@[simp] theorem State.setDmd_choices (s : State) (d : DemandMonitor) : (s.setDmd d).choices = s.choices := rfl
@[simp] theorem State.setDmd_pending (s : State) (d : DemandMonitor) : (s.setDmd d).pending = s.pending := rfl

@[simp] theorem State.setPort_straps (s : State) (p : PortUnit) : (s.setPort p).straps = s.straps := rfl
@[simp] theorem State.setPort_unitNumber (s : State) (p : PortUnit) : (s.setPort p).unitNumber = s.unitNumber := rfl
@[simp] theorem State.setPort_frame (s : State) (p : PortUnit) : (s.setPort p).frame = s.frame := rfl
@[simp] theorem State.setPort_exch (s : State) (p : PortUnit) : (s.setPort p).exch = s.exch := rfl
@[simp] theorem State.setPort_roster (s : State) (p : PortUnit) : (s.setPort p).roster = s.roster := rfl
@[simp] theorem State.setPort_ctl (s : State) (p : PortUnit) : (s.setPort p).ctl = s.ctl := rfl
@[simp] theorem State.setPort_gen (s : State) (p : PortUnit) : (s.setPort p).gen = s.gen := rfl
@[simp] theorem State.setPort_meas (s : State) (p : PortUnit) : (s.setPort p).meas = s.meas := rfl
@[simp] theorem State.setPort_dmd (s : State) (p : PortUnit) : (s.setPort p).dmd = s.dmd := rfl
@[simp] theorem State.setPort_port (s : State) (p : PortUnit) : (s.setPort p).port = p := rfl
@[simp] theorem State.setPort_inputs (s : State) (p : PortUnit) : (s.setPort p).inputs = s.inputs := rfl
@[simp] theorem State.setPort_choices (s : State) (p : PortUnit) : (s.setPort p).choices = s.choices := rfl
@[simp] theorem State.setPort_pending (s : State) (p : PortUnit) : (s.setPort p).pending = s.pending := rfl

@[simp] theorem State.setStraps_straps (s : State) (x : Option Straps) : (s.setStraps x).straps = x := rfl
@[simp] theorem State.setStraps_unitNumber (s : State) (x : Option Straps) : (s.setStraps x).unitNumber = s.unitNumber := rfl
@[simp] theorem State.setStraps_frame (s : State) (x : Option Straps) : (s.setStraps x).frame = s.frame := rfl
@[simp] theorem State.setStraps_exch (s : State) (x : Option Straps) : (s.setStraps x).exch = s.exch := rfl
@[simp] theorem State.setStraps_roster (s : State) (x : Option Straps) : (s.setStraps x).roster = s.roster := rfl
@[simp] theorem State.setStraps_ctl (s : State) (x : Option Straps) : (s.setStraps x).ctl = s.ctl := rfl
@[simp] theorem State.setStraps_gen (s : State) (x : Option Straps) : (s.setStraps x).gen = s.gen := rfl
@[simp] theorem State.setStraps_meas (s : State) (x : Option Straps) : (s.setStraps x).meas = s.meas := rfl
@[simp] theorem State.setStraps_dmd (s : State) (x : Option Straps) : (s.setStraps x).dmd = s.dmd := rfl
@[simp] theorem State.setStraps_port (s : State) (x : Option Straps) : (s.setStraps x).port = s.port := rfl
@[simp] theorem State.setStraps_inputs (s : State) (x : Option Straps) : (s.setStraps x).inputs = s.inputs := rfl
@[simp] theorem State.setStraps_choices (s : State) (x : Option Straps) : (s.setStraps x).choices = s.choices := rfl
@[simp] theorem State.setStraps_pending (s : State) (x : Option Straps) : (s.setStraps x).pending = s.pending := rfl

@[simp] theorem State.setPending_straps (s : State) (q : List Instr) : (s.setPending q).straps = s.straps := rfl
@[simp] theorem State.setPending_unitNumber (s : State) (q : List Instr) : (s.setPending q).unitNumber = s.unitNumber := rfl
@[simp] theorem State.setPending_frame (s : State) (q : List Instr) : (s.setPending q).frame = s.frame := rfl
@[simp] theorem State.setPending_exch (s : State) (q : List Instr) : (s.setPending q).exch = s.exch := rfl
@[simp] theorem State.setPending_roster (s : State) (q : List Instr) : (s.setPending q).roster = s.roster := rfl
@[simp] theorem State.setPending_ctl (s : State) (q : List Instr) : (s.setPending q).ctl = s.ctl := rfl
@[simp] theorem State.setPending_gen (s : State) (q : List Instr) : (s.setPending q).gen = s.gen := rfl
@[simp] theorem State.setPending_meas (s : State) (q : List Instr) : (s.setPending q).meas = s.meas := rfl
@[simp] theorem State.setPending_dmd (s : State) (q : List Instr) : (s.setPending q).dmd = s.dmd := rfl
@[simp] theorem State.setPending_port (s : State) (q : List Instr) : (s.setPending q).port = s.port := rfl
@[simp] theorem State.setPending_inputs (s : State) (q : List Instr) : (s.setPending q).inputs = s.inputs := rfl
@[simp] theorem State.setPending_choices (s : State) (q : List Instr) : (s.setPending q).choices = s.choices := rfl
@[simp] theorem State.setPending_pending (s : State) (q : List Instr) : (s.setPending q).pending = q := rfl

/-! Readers of the configuration and the straps see only the port and the straps. -/

@[simp] theorem State.setFrame_frameLen (s : State) (f : FrameUnit) : (s.setFrame f).frameLen = s.frameLen := rfl
@[simp] theorem State.setFrame_dutyMax (s : State) (f : FrameUnit) : (s.setFrame f).dutyMax = s.dutyMax := rfl
@[simp] theorem State.setFrame_dead (s : State) (f : FrameUnit) : (s.setFrame f).dead = s.dead := rfl
@[simp] theorem State.setFrame_sampleAt (s : State) (f : FrameUnit) : (s.setFrame f).sampleAt = s.sampleAt := rfl
@[simp] theorem State.setFrame_code (s : State) (f : FrameUnit) : (s.setFrame f).code = s.code := rfl
@[simp] theorem State.setFrame_autoHigh (s : State) (f : FrameUnit) : (s.setFrame f).autoHigh = s.autoHigh := rfl
@[simp] theorem State.setFrame_activeLevel (s : State) (f : FrameUnit) : (s.setFrame f).activeLevel = s.activeLevel := rfl

@[simp] theorem State.setExch_frameLen (s : State) (e : ExchangeUnit) : (s.setExch e).frameLen = s.frameLen := rfl
@[simp] theorem State.setExch_dutyMax (s : State) (e : ExchangeUnit) : (s.setExch e).dutyMax = s.dutyMax := rfl
@[simp] theorem State.setExch_dead (s : State) (e : ExchangeUnit) : (s.setExch e).dead = s.dead := rfl
@[simp] theorem State.setExch_sampleAt (s : State) (e : ExchangeUnit) : (s.setExch e).sampleAt = s.sampleAt := rfl
@[simp] theorem State.setExch_code (s : State) (e : ExchangeUnit) : (s.setExch e).code = s.code := rfl
@[simp] theorem State.setExch_autoHigh (s : State) (e : ExchangeUnit) : (s.setExch e).autoHigh = s.autoHigh := rfl
@[simp] theorem State.setExch_activeLevel (s : State) (e : ExchangeUnit) : (s.setExch e).activeLevel = s.activeLevel := rfl

@[simp] theorem State.setRoster_frameLen (s : State) (r : RosterUnit) : (s.setRoster r).frameLen = s.frameLen := rfl
@[simp] theorem State.setRoster_dutyMax (s : State) (r : RosterUnit) : (s.setRoster r).dutyMax = s.dutyMax := rfl
@[simp] theorem State.setRoster_dead (s : State) (r : RosterUnit) : (s.setRoster r).dead = s.dead := rfl
@[simp] theorem State.setRoster_sampleAt (s : State) (r : RosterUnit) : (s.setRoster r).sampleAt = s.sampleAt := rfl
@[simp] theorem State.setRoster_code (s : State) (r : RosterUnit) : (s.setRoster r).code = s.code := rfl
@[simp] theorem State.setRoster_autoHigh (s : State) (r : RosterUnit) : (s.setRoster r).autoHigh = s.autoHigh := rfl
@[simp] theorem State.setRoster_activeLevel (s : State) (r : RosterUnit) : (s.setRoster r).activeLevel = s.activeLevel := rfl

@[simp] theorem State.setCtl_frameLen (s : State) (c : Controller) : (s.setCtl c).frameLen = s.frameLen := rfl
@[simp] theorem State.setCtl_dutyMax (s : State) (c : Controller) : (s.setCtl c).dutyMax = s.dutyMax := rfl
@[simp] theorem State.setCtl_dead (s : State) (c : Controller) : (s.setCtl c).dead = s.dead := rfl
@[simp] theorem State.setCtl_sampleAt (s : State) (c : Controller) : (s.setCtl c).sampleAt = s.sampleAt := rfl
@[simp] theorem State.setCtl_code (s : State) (c : Controller) : (s.setCtl c).code = s.code := rfl
@[simp] theorem State.setCtl_autoHigh (s : State) (c : Controller) : (s.setCtl c).autoHigh = s.autoHigh := rfl
@[simp] theorem State.setCtl_activeLevel (s : State) (c : Controller) : (s.setCtl c).activeLevel = s.activeLevel := rfl

@[simp] theorem State.setGen_frameLen (s : State) (g : PhaseGenerator) : (s.setGen g).frameLen = s.frameLen := rfl
@[simp] theorem State.setGen_dutyMax (s : State) (g : PhaseGenerator) : (s.setGen g).dutyMax = s.dutyMax := rfl
@[simp] theorem State.setGen_dead (s : State) (g : PhaseGenerator) : (s.setGen g).dead = s.dead := rfl
@[simp] theorem State.setGen_sampleAt (s : State) (g : PhaseGenerator) : (s.setGen g).sampleAt = s.sampleAt := rfl
@[simp] theorem State.setGen_code (s : State) (g : PhaseGenerator) : (s.setGen g).code = s.code := rfl
@[simp] theorem State.setGen_autoHigh (s : State) (g : PhaseGenerator) : (s.setGen g).autoHigh = s.autoHigh := rfl
@[simp] theorem State.setGen_activeLevel (s : State) (g : PhaseGenerator) : (s.setGen g).activeLevel = s.activeLevel := rfl

@[simp] theorem State.setMeas_frameLen (s : State) (m : MeasurementUnit) : (s.setMeas m).frameLen = s.frameLen := rfl
@[simp] theorem State.setMeas_dutyMax (s : State) (m : MeasurementUnit) : (s.setMeas m).dutyMax = s.dutyMax := rfl
@[simp] theorem State.setMeas_dead (s : State) (m : MeasurementUnit) : (s.setMeas m).dead = s.dead := rfl
@[simp] theorem State.setMeas_sampleAt (s : State) (m : MeasurementUnit) : (s.setMeas m).sampleAt = s.sampleAt := rfl
@[simp] theorem State.setMeas_code (s : State) (m : MeasurementUnit) : (s.setMeas m).code = s.code := rfl
@[simp] theorem State.setMeas_autoHigh (s : State) (m : MeasurementUnit) : (s.setMeas m).autoHigh = s.autoHigh := rfl
@[simp] theorem State.setMeas_activeLevel (s : State) (m : MeasurementUnit) : (s.setMeas m).activeLevel = s.activeLevel := rfl

@[simp] theorem State.setDmd_frameLen (s : State) (d : DemandMonitor) : (s.setDmd d).frameLen = s.frameLen := rfl
@[simp] theorem State.setDmd_dutyMax (s : State) (d : DemandMonitor) : (s.setDmd d).dutyMax = s.dutyMax := rfl
@[simp] theorem State.setDmd_dead (s : State) (d : DemandMonitor) : (s.setDmd d).dead = s.dead := rfl
@[simp] theorem State.setDmd_sampleAt (s : State) (d : DemandMonitor) : (s.setDmd d).sampleAt = s.sampleAt := rfl
@[simp] theorem State.setDmd_code (s : State) (d : DemandMonitor) : (s.setDmd d).code = s.code := rfl
@[simp] theorem State.setDmd_autoHigh (s : State) (d : DemandMonitor) : (s.setDmd d).autoHigh = s.autoHigh := rfl
@[simp] theorem State.setDmd_activeLevel (s : State) (d : DemandMonitor) : (s.setDmd d).activeLevel = s.activeLevel := rfl

@[simp] theorem State.setPort_code (s : State) (p : PortUnit) : (s.setPort p).code = s.code := rfl
@[simp] theorem State.setPort_autoHigh (s : State) (p : PortUnit) : (s.setPort p).autoHigh = s.autoHigh := rfl
@[simp] theorem State.setPort_activeLevel (s : State) (p : PortUnit) : (s.setPort p).activeLevel = s.activeLevel := rfl

@[simp] theorem State.setStraps_frameLen (s : State) (x : Option Straps) : (s.setStraps x).frameLen = s.frameLen := rfl
@[simp] theorem State.setStraps_dutyMax (s : State) (x : Option Straps) : (s.setStraps x).dutyMax = s.dutyMax := rfl
@[simp] theorem State.setStraps_dead (s : State) (x : Option Straps) : (s.setStraps x).dead = s.dead := rfl
@[simp] theorem State.setStraps_sampleAt (s : State) (x : Option Straps) : (s.setStraps x).sampleAt = s.sampleAt := rfl

@[simp] theorem State.setPending_frameLen (s : State) (q : List Instr) : (s.setPending q).frameLen = s.frameLen := rfl
@[simp] theorem State.setPending_dutyMax (s : State) (q : List Instr) : (s.setPending q).dutyMax = s.dutyMax := rfl
@[simp] theorem State.setPending_dead (s : State) (q : List Instr) : (s.setPending q).dead = s.dead := rfl
@[simp] theorem State.setPending_sampleAt (s : State) (q : List Instr) : (s.setPending q).sampleAt = s.sampleAt := rfl
@[simp] theorem State.setPending_code (s : State) (q : List Instr) : (s.setPending q).code = s.code := rfl
@[simp] theorem State.setPending_autoHigh (s : State) (q : List Instr) : (s.setPending q).autoHigh = s.autoHigh := rfl
@[simp] theorem State.setPending_activeLevel (s : State) (q : List Instr) : (s.setPending q).activeLevel = s.activeLevel := rfl

end Sys2Proof.Machine
end

