-- ==== Sys2Proof/Laws/Ops.lean ====
section
/-! SUPPORT. What each shared operation leaves alone: for each operation one simp lemma for each field of State it does
not reach, and for the configuration, which none of them reaches. -/

namespace Sys2Proof.Machine

@[simp] theorem PortUnit.raise_config (p : PortUnit) (f : Flag) : (p.raise f).config = p.config := rfl

@[simp] theorem PortUnit.append_config (p : PortUnit) (r : WordRecord) : (p.append r).config = p.config := by
  unfold PortUnit.append; split <;> rfl

/-! ## The flags -/

@[simp] theorem State.raise_straps (s : State) (f : Flag) : (s.raise f).straps = s.straps := rfl
@[simp] theorem State.raise_unitNumber (s : State) (f : Flag) : (s.raise f).unitNumber = s.unitNumber := rfl
@[simp] theorem State.raise_frame (s : State) (f : Flag) : (s.raise f).frame = s.frame := rfl
@[simp] theorem State.raise_exch (s : State) (f : Flag) : (s.raise f).exch = s.exch := rfl
@[simp] theorem State.raise_roster (s : State) (f : Flag) : (s.raise f).roster = s.roster := rfl
@[simp] theorem State.raise_ctl (s : State) (f : Flag) : (s.raise f).ctl = s.ctl := rfl
@[simp] theorem State.raise_gen (s : State) (f : Flag) : (s.raise f).gen = s.gen := rfl
@[simp] theorem State.raise_meas (s : State) (f : Flag) : (s.raise f).meas = s.meas := rfl
@[simp] theorem State.raise_dmd (s : State) (f : Flag) : (s.raise f).dmd = s.dmd := rfl
@[simp] theorem State.raise_inputs (s : State) (f : Flag) : (s.raise f).inputs = s.inputs := rfl
@[simp] theorem State.raise_choices (s : State) (f : Flag) : (s.raise f).choices = s.choices := rfl
@[simp] theorem State.raise_pending (s : State) (f : Flag) : (s.raise f).pending = s.pending := rfl
@[simp] theorem State.raise_config (s : State) (f : Flag) : (s.raise f).port.config = s.port.config := rfl

@[simp] theorem State.raiseIf_straps (s : State) (b : Bool) (f : Flag) : (s.raiseIf b f).straps = s.straps := by
  unfold State.raiseIf; split <;> simp
@[simp] theorem State.raiseIf_unitNumber (s : State) (b : Bool) (f : Flag) : (s.raiseIf b f).unitNumber = s.unitNumber := by
  unfold State.raiseIf; split <;> simp
@[simp] theorem State.raiseIf_frame (s : State) (b : Bool) (f : Flag) : (s.raiseIf b f).frame = s.frame := by
  unfold State.raiseIf; split <;> simp
@[simp] theorem State.raiseIf_exch (s : State) (b : Bool) (f : Flag) : (s.raiseIf b f).exch = s.exch := by
  unfold State.raiseIf; split <;> simp
@[simp] theorem State.raiseIf_roster (s : State) (b : Bool) (f : Flag) : (s.raiseIf b f).roster = s.roster := by
  unfold State.raiseIf; split <;> simp
@[simp] theorem State.raiseIf_ctl (s : State) (b : Bool) (f : Flag) : (s.raiseIf b f).ctl = s.ctl := by
  unfold State.raiseIf; split <;> simp
@[simp] theorem State.raiseIf_gen (s : State) (b : Bool) (f : Flag) : (s.raiseIf b f).gen = s.gen := by
  unfold State.raiseIf; split <;> simp
@[simp] theorem State.raiseIf_meas (s : State) (b : Bool) (f : Flag) : (s.raiseIf b f).meas = s.meas := by
  unfold State.raiseIf; split <;> simp
@[simp] theorem State.raiseIf_dmd (s : State) (b : Bool) (f : Flag) : (s.raiseIf b f).dmd = s.dmd := by
  unfold State.raiseIf; split <;> simp
@[simp] theorem State.raiseIf_inputs (s : State) (b : Bool) (f : Flag) : (s.raiseIf b f).inputs = s.inputs := by
  unfold State.raiseIf; split <;> simp
@[simp] theorem State.raiseIf_choices (s : State) (b : Bool) (f : Flag) : (s.raiseIf b f).choices = s.choices := by
  unfold State.raiseIf; split <;> simp
@[simp] theorem State.raiseIf_pending (s : State) (b : Bool) (f : Flag) : (s.raiseIf b f).pending = s.pending := by
  unfold State.raiseIf; split <;> simp
@[simp] theorem State.raiseIf_config (s : State) (b : Bool) (f : Flag) : (s.raiseIf b f).port.config = s.port.config := by
  unfold State.raiseIf; split <;> simp

/-! ## The gates and the schedule -/

@[simp] theorem State.resumeLg_straps (s : State) : (s.resumeLg).straps = s.straps := by
  unfold State.resumeLg; split <;> simp
@[simp] theorem State.resumeLg_unitNumber (s : State) : (s.resumeLg).unitNumber = s.unitNumber := by
  unfold State.resumeLg; split <;> simp
@[simp] theorem State.resumeLg_frame (s : State) : (s.resumeLg).frame = s.frame := by
  unfold State.resumeLg; split <;> simp
@[simp] theorem State.resumeLg_exch (s : State) : (s.resumeLg).exch = s.exch := by
  unfold State.resumeLg; split <;> simp
@[simp] theorem State.resumeLg_roster (s : State) : (s.resumeLg).roster = s.roster := by
  unfold State.resumeLg; split <;> simp
@[simp] theorem State.resumeLg_ctl (s : State) : (s.resumeLg).ctl = s.ctl := by
  unfold State.resumeLg; split <;> simp
@[simp] theorem State.resumeLg_meas (s : State) : (s.resumeLg).meas = s.meas := by
  unfold State.resumeLg; split <;> simp
@[simp] theorem State.resumeLg_dmd (s : State) : (s.resumeLg).dmd = s.dmd := by
  unfold State.resumeLg; split <;> simp
@[simp] theorem State.resumeLg_port (s : State) : (s.resumeLg).port = s.port := by
  unfold State.resumeLg; split <;> simp
@[simp] theorem State.resumeLg_inputs (s : State) : (s.resumeLg).inputs = s.inputs := by
  unfold State.resumeLg; split <;> simp
@[simp] theorem State.resumeLg_choices (s : State) : (s.resumeLg).choices = s.choices := by
  unfold State.resumeLg; split <;> simp
@[simp] theorem State.resumeLg_pending (s : State) : (s.resumeLg).pending = s.pending := by
  unfold State.resumeLg; split <;> simp

@[simp] theorem State.swapSchedule_straps (s : State) : (s.swapSchedule).straps = s.straps := rfl
@[simp] theorem State.swapSchedule_unitNumber (s : State) : (s.swapSchedule).unitNumber = s.unitNumber := rfl
@[simp] theorem State.swapSchedule_frame (s : State) : (s.swapSchedule).frame = s.frame := rfl
@[simp] theorem State.swapSchedule_exch (s : State) : (s.swapSchedule).exch = s.exch := rfl
@[simp] theorem State.swapSchedule_roster (s : State) : (s.swapSchedule).roster = s.roster := rfl
@[simp] theorem State.swapSchedule_ctl (s : State) : (s.swapSchedule).ctl = s.ctl := rfl
@[simp] theorem State.swapSchedule_dmd (s : State) : (s.swapSchedule).dmd = s.dmd := rfl
@[simp] theorem State.swapSchedule_port (s : State) : (s.swapSchedule).port = s.port := rfl
@[simp] theorem State.swapSchedule_inputs (s : State) : (s.swapSchedule).inputs = s.inputs := rfl
@[simp] theorem State.swapSchedule_choices (s : State) : (s.swapSchedule).choices = s.choices := rfl
@[simp] theorem State.swapSchedule_pending (s : State) : (s.swapSchedule).pending = s.pending := rfl

/-! ## The station controller -/

@[simp] theorem State.stopSwitching_straps (s : State) : (s.stopSwitching).straps = s.straps := rfl
@[simp] theorem State.stopSwitching_unitNumber (s : State) : (s.stopSwitching).unitNumber = s.unitNumber := rfl
@[simp] theorem State.stopSwitching_frame (s : State) : (s.stopSwitching).frame = s.frame := rfl
@[simp] theorem State.stopSwitching_exch (s : State) : (s.stopSwitching).exch = s.exch := rfl
@[simp] theorem State.stopSwitching_roster (s : State) : (s.stopSwitching).roster = s.roster := rfl
@[simp] theorem State.stopSwitching_ctl (s : State) : (s.stopSwitching).ctl = s.ctl := rfl
@[simp] theorem State.stopSwitching_dmd (s : State) : (s.stopSwitching).dmd = s.dmd := rfl
@[simp] theorem State.stopSwitching_port (s : State) : (s.stopSwitching).port = s.port := rfl
@[simp] theorem State.stopSwitching_inputs (s : State) : (s.stopSwitching).inputs = s.inputs := rfl
@[simp] theorem State.stopSwitching_choices (s : State) : (s.stopSwitching).choices = s.choices := rfl
@[simp] theorem State.stopSwitching_pending (s : State) : (s.stopSwitching).pending = s.pending := rfl

@[simp] theorem State.stopOwing_straps (s : State) : (s.stopOwing).straps = s.straps := rfl
@[simp] theorem State.stopOwing_unitNumber (s : State) : (s.stopOwing).unitNumber = s.unitNumber := rfl
@[simp] theorem State.stopOwing_frame (s : State) : (s.stopOwing).frame = s.frame := rfl
@[simp] theorem State.stopOwing_exch (s : State) : (s.stopOwing).exch = s.exch := rfl
@[simp] theorem State.stopOwing_roster (s : State) : (s.stopOwing).roster = s.roster := rfl
@[simp] theorem State.stopOwing_ctl (s : State) : (s.stopOwing).ctl = s.ctl := rfl
@[simp] theorem State.stopOwing_dmd (s : State) : (s.stopOwing).dmd = s.dmd := rfl
@[simp] theorem State.stopOwing_port (s : State) : (s.stopOwing).port = s.port := rfl
@[simp] theorem State.stopOwing_inputs (s : State) : (s.stopOwing).inputs = s.inputs := rfl
@[simp] theorem State.stopOwing_choices (s : State) : (s.stopOwing).choices = s.choices := rfl
@[simp] theorem State.stopOwing_pending (s : State) : (s.stopOwing).pending = s.pending := rfl

@[simp] theorem State.enterAside_straps (s : State) : (s.enterAside).straps = s.straps := by simp [State.enterAside]
@[simp] theorem State.enterAside_unitNumber (s : State) : (s.enterAside).unitNumber = s.unitNumber := by simp [State.enterAside]
@[simp] theorem State.enterAside_frame (s : State) : (s.enterAside).frame = s.frame := by simp [State.enterAside]
@[simp] theorem State.enterAside_exch (s : State) : (s.enterAside).exch = s.exch := by simp [State.enterAside]
@[simp] theorem State.enterAside_roster (s : State) : (s.enterAside).roster = s.roster := by simp [State.enterAside]
@[simp] theorem State.enterAside_dmd (s : State) : (s.enterAside).dmd = s.dmd := by simp [State.enterAside]
@[simp] theorem State.enterAside_port (s : State) : (s.enterAside).port = s.port := by simp [State.enterAside]
@[simp] theorem State.enterAside_inputs (s : State) : (s.enterAside).inputs = s.inputs := by simp [State.enterAside]
@[simp] theorem State.enterAside_choices (s : State) : (s.enterAside).choices = s.choices := by simp [State.enterAside]
@[simp] theorem State.enterAside_pending (s : State) : (s.enterAside).pending = s.pending := by simp [State.enterAside]

@[simp] theorem State.addCause_straps (s : State) (c : AsideCause) : (s.addCause c).straps = s.straps := by
  unfold State.addCause; (repeat' split) <;> simp
@[simp] theorem State.addCause_unitNumber (s : State) (c : AsideCause) : (s.addCause c).unitNumber = s.unitNumber := by
  unfold State.addCause; (repeat' split) <;> simp
@[simp] theorem State.addCause_frame (s : State) (c : AsideCause) : (s.addCause c).frame = s.frame := by
  unfold State.addCause; (repeat' split) <;> simp
@[simp] theorem State.addCause_exch (s : State) (c : AsideCause) : (s.addCause c).exch = s.exch := by
  unfold State.addCause; (repeat' split) <;> simp
@[simp] theorem State.addCause_roster (s : State) (c : AsideCause) : (s.addCause c).roster = s.roster := by
  unfold State.addCause; (repeat' split) <;> simp
@[simp] theorem State.addCause_dmd (s : State) (c : AsideCause) : (s.addCause c).dmd = s.dmd := by
  unfold State.addCause; (repeat' split) <;> simp
@[simp] theorem State.addCause_port (s : State) (c : AsideCause) : (s.addCause c).port = s.port := by
  unfold State.addCause; (repeat' split) <;> simp
@[simp] theorem State.addCause_inputs (s : State) (c : AsideCause) : (s.addCause c).inputs = s.inputs := by
  unfold State.addCause; (repeat' split) <;> simp
@[simp] theorem State.addCause_choices (s : State) (c : AsideCause) : (s.addCause c).choices = s.choices := by
  unfold State.addCause; (repeat' split) <;> simp
@[simp] theorem State.addCause_pending (s : State) (c : AsideCause) : (s.addCause c).pending = s.pending := by
  unfold State.addCause; (repeat' split) <;> simp

@[simp] theorem State.removeCause_straps (s : State) (c : AsideCause) : (s.removeCause c).straps = s.straps := rfl
@[simp] theorem State.removeCause_unitNumber (s : State) (c : AsideCause) : (s.removeCause c).unitNumber = s.unitNumber := rfl
@[simp] theorem State.removeCause_frame (s : State) (c : AsideCause) : (s.removeCause c).frame = s.frame := rfl
@[simp] theorem State.removeCause_exch (s : State) (c : AsideCause) : (s.removeCause c).exch = s.exch := rfl
@[simp] theorem State.removeCause_roster (s : State) (c : AsideCause) : (s.removeCause c).roster = s.roster := rfl
@[simp] theorem State.removeCause_gen (s : State) (c : AsideCause) : (s.removeCause c).gen = s.gen := rfl
@[simp] theorem State.removeCause_meas (s : State) (c : AsideCause) : (s.removeCause c).meas = s.meas := rfl
@[simp] theorem State.removeCause_dmd (s : State) (c : AsideCause) : (s.removeCause c).dmd = s.dmd := rfl
@[simp] theorem State.removeCause_port (s : State) (c : AsideCause) : (s.removeCause c).port = s.port := rfl
@[simp] theorem State.removeCause_inputs (s : State) (c : AsideCause) : (s.removeCause c).inputs = s.inputs := rfl
@[simp] theorem State.removeCause_choices (s : State) (c : AsideCause) : (s.removeCause c).choices = s.choices := rfl
@[simp] theorem State.removeCause_pending (s : State) (c : AsideCause) : (s.removeCause c).pending = s.pending := rfl

@[simp] theorem State.endPart_straps (s : State) : (s.endPart).straps = s.straps := rfl
@[simp] theorem State.endPart_unitNumber (s : State) : (s.endPart).unitNumber = s.unitNumber := rfl
@[simp] theorem State.endPart_roster (s : State) : (s.endPart).roster = s.roster := rfl
@[simp] theorem State.endPart_gen (s : State) : (s.endPart).gen = s.gen := rfl
@[simp] theorem State.endPart_dmd (s : State) : (s.endPart).dmd = s.dmd := rfl
@[simp] theorem State.endPart_port (s : State) : (s.endPart).port = s.port := rfl
@[simp] theorem State.endPart_inputs (s : State) : (s.endPart).inputs = s.inputs := rfl
@[simp] theorem State.endPart_choices (s : State) : (s.endPart).choices = s.choices := rfl
@[simp] theorem State.endPart_pending (s : State) : (s.endPart).pending = s.pending := rfl

@[simp] theorem State.enterFault_straps (s : State) (c : FaultCause) (n : Nat) : (s.enterFault c n).straps = s.straps := by simp [State.enterFault]
@[simp] theorem State.enterFault_unitNumber (s : State) (c : FaultCause) (n : Nat) : (s.enterFault c n).unitNumber = s.unitNumber := by simp [State.enterFault]
@[simp] theorem State.enterFault_frame (s : State) (c : FaultCause) (n : Nat) : (s.enterFault c n).frame = s.frame := by simp [State.enterFault]
@[simp] theorem State.enterFault_exch (s : State) (c : FaultCause) (n : Nat) : (s.enterFault c n).exch = s.exch := by simp [State.enterFault]
@[simp] theorem State.enterFault_roster (s : State) (c : FaultCause) (n : Nat) : (s.enterFault c n).roster = s.roster := by simp [State.enterFault]
@[simp] theorem State.enterFault_dmd (s : State) (c : FaultCause) (n : Nat) : (s.enterFault c n).dmd = s.dmd := by simp [State.enterFault]
@[simp] theorem State.enterFault_inputs (s : State) (c : FaultCause) (n : Nat) : (s.enterFault c n).inputs = s.inputs := by simp [State.enterFault]
@[simp] theorem State.enterFault_choices (s : State) (c : FaultCause) (n : Nat) : (s.enterFault c n).choices = s.choices := by simp [State.enterFault]
@[simp] theorem State.enterFault_pending (s : State) (c : FaultCause) (n : Nat) : (s.enterFault c n).pending = s.pending := by simp [State.enterFault]
@[simp] theorem State.enterFault_config (s : State) (c : FaultCause) (n : Nat) : (s.enterFault c n).port.config = s.port.config := rfl

@[simp] theorem State.declareFault_straps (s : State) (c : FaultCause) : (s.declareFault c).straps = s.straps := by
  unfold State.declareFault; (repeat' split) <;> simp
@[simp] theorem State.declareFault_unitNumber (s : State) (c : FaultCause) : (s.declareFault c).unitNumber = s.unitNumber := by
  unfold State.declareFault; (repeat' split) <;> simp
@[simp] theorem State.declareFault_exch (s : State) (c : FaultCause) : (s.declareFault c).exch = s.exch := by
  unfold State.declareFault; (repeat' split) <;> simp
@[simp] theorem State.declareFault_roster (s : State) (c : FaultCause) : (s.declareFault c).roster = s.roster := by
  unfold State.declareFault; (repeat' split) <;> simp
@[simp] theorem State.declareFault_dmd (s : State) (c : FaultCause) : (s.declareFault c).dmd = s.dmd := by
  unfold State.declareFault; (repeat' split) <;> simp
@[simp] theorem State.declareFault_inputs (s : State) (c : FaultCause) : (s.declareFault c).inputs = s.inputs := by
  unfold State.declareFault; (repeat' split) <;> simp
@[simp] theorem State.declareFault_choices (s : State) (c : FaultCause) : (s.declareFault c).choices = s.choices := by
  unfold State.declareFault; (repeat' split) <;> simp
@[simp] theorem State.declareFault_pending (s : State) (c : FaultCause) : (s.declareFault c).pending = s.pending := by
  unfold State.declareFault; (repeat' split) <;> simp
@[simp] theorem State.declareFault_config (s : State) (c : FaultCause) : (s.declareFault c).port.config = s.port.config := by
  unfold State.declareFault; (repeat' split) <;> simp

@[simp] theorem State.rejoin_straps (s : State) (b : Bool) : (s.rejoin b).straps = s.straps := rfl
@[simp] theorem State.rejoin_unitNumber (s : State) (b : Bool) : (s.rejoin b).unitNumber = s.unitNumber := rfl
@[simp] theorem State.rejoin_dmd (s : State) (b : Bool) : (s.rejoin b).dmd = s.dmd := rfl
@[simp] theorem State.rejoin_port (s : State) (b : Bool) : (s.rejoin b).port = s.port := rfl
@[simp] theorem State.rejoin_inputs (s : State) (b : Bool) : (s.rejoin b).inputs = s.inputs := rfl
@[simp] theorem State.rejoin_choices (s : State) (b : Bool) : (s.rejoin b).choices = s.choices := rfl
@[simp] theorem State.rejoin_pending (s : State) (b : Bool) : (s.rejoin b).pending = s.pending := rfl

@[simp] theorem State.startStation_straps (s : State) : (s.startStation).straps = s.straps := by
  unfold State.startStation; split <;> simp
@[simp] theorem State.startStation_unitNumber (s : State) : (s.startStation).unitNumber = s.unitNumber := by
  unfold State.startStation; split <;> simp
@[simp] theorem State.startStation_frame (s : State) : (s.startStation).frame = s.frame := by
  unfold State.startStation; split <;> simp
@[simp] theorem State.startStation_exch (s : State) : (s.startStation).exch = s.exch := by
  unfold State.startStation; split <;> simp
@[simp] theorem State.startStation_roster (s : State) : (s.startStation).roster = s.roster := by
  unfold State.startStation; split <;> simp
@[simp] theorem State.startStation_gen (s : State) : (s.startStation).gen = s.gen := by
  unfold State.startStation; split <;> simp
@[simp] theorem State.startStation_dmd (s : State) : (s.startStation).dmd = s.dmd := by
  unfold State.startStation; split <;> simp
@[simp] theorem State.startStation_port (s : State) : (s.startStation).port = s.port := by
  unfold State.startStation; split <;> simp
@[simp] theorem State.startStation_inputs (s : State) : (s.startStation).inputs = s.inputs := by
  unfold State.startStation; split <;> simp
@[simp] theorem State.startStation_choices (s : State) : (s.startStation).choices = s.choices := by
  unfold State.startStation; split <;> simp
@[simp] theorem State.startStation_pending (s : State) : (s.startStation).pending = s.pending := by
  unfold State.startStation; split <;> simp

@[simp] theorem State.startCheck_straps (s : State) : (s.startCheck).straps = s.straps := by
  unfold State.startCheck; split <;> simp
@[simp] theorem State.startCheck_unitNumber (s : State) : (s.startCheck).unitNumber = s.unitNumber := by
  unfold State.startCheck; split <;> simp
@[simp] theorem State.startCheck_exch (s : State) : (s.startCheck).exch = s.exch := by
  unfold State.startCheck; split <;> simp
@[simp] theorem State.startCheck_dmd (s : State) : (s.startCheck).dmd = s.dmd := by
  unfold State.startCheck; split <;> simp
@[simp] theorem State.startCheck_port (s : State) : (s.startCheck).port = s.port := by
  unfold State.startCheck; split <;> simp
@[simp] theorem State.startCheck_inputs (s : State) : (s.startCheck).inputs = s.inputs := by
  unfold State.startCheck; split <;> simp
@[simp] theorem State.startCheck_choices (s : State) : (s.startCheck).choices = s.choices := by
  unfold State.startCheck; split <;> simp
@[simp] theorem State.startCheck_pending (s : State) : (s.startCheck).pending = s.pending := by
  unfold State.startCheck; split <;> simp

@[simp] theorem State.align_straps (s : State) : (s.align).straps = s.straps := by simp [State.align]
@[simp] theorem State.align_unitNumber (s : State) : (s.align).unitNumber = s.unitNumber := by simp [State.align]
@[simp] theorem State.align_dmd (s : State) : (s.align).dmd = s.dmd := by simp [State.align]
@[simp] theorem State.align_port (s : State) : (s.align).port = s.port := by simp [State.align]
@[simp] theorem State.align_inputs (s : State) : (s.align).inputs = s.inputs := by simp [State.align]
@[simp] theorem State.align_choices (s : State) : (s.align).choices = s.choices := by simp [State.align]
@[simp] theorem State.align_pending (s : State) : (s.align).pending = s.pending := by simp [State.align]

@[simp] theorem State.found_straps (s : State) : (s.found).straps = s.straps := by simp [State.found]
@[simp] theorem State.found_unitNumber (s : State) : (s.found).unitNumber = s.unitNumber := by simp [State.found]
@[simp] theorem State.found_dmd (s : State) : (s.found).dmd = s.dmd := by simp [State.found]
@[simp] theorem State.found_port (s : State) : (s.found).port = s.port := by simp [State.found]
@[simp] theorem State.found_inputs (s : State) : (s.found).inputs = s.inputs := by simp [State.found]
@[simp] theorem State.found_choices (s : State) : (s.found).choices = s.choices := by simp [State.found]
@[simp] theorem State.found_pending (s : State) : (s.found).pending = s.pending := by simp [State.found]

@[simp] theorem State.enterHold_straps (s : State) : (s.enterHold).straps = s.straps := rfl
@[simp] theorem State.enterHold_unitNumber (s : State) : (s.enterHold).unitNumber = s.unitNumber := rfl
@[simp] theorem State.enterHold_frame (s : State) : (s.enterHold).frame = s.frame := rfl
@[simp] theorem State.enterHold_exch (s : State) : (s.enterHold).exch = s.exch := rfl
@[simp] theorem State.enterHold_roster (s : State) : (s.enterHold).roster = s.roster := rfl
@[simp] theorem State.enterHold_dmd (s : State) : (s.enterHold).dmd = s.dmd := rfl
@[simp] theorem State.enterHold_port (s : State) : (s.enterHold).port = s.port := rfl
@[simp] theorem State.enterHold_inputs (s : State) : (s.enterHold).inputs = s.inputs := rfl
@[simp] theorem State.enterHold_choices (s : State) : (s.enterHold).choices = s.choices := rfl
@[simp] theorem State.enterHold_pending (s : State) : (s.enterHold).pending = s.pending := rfl

@[simp] theorem State.readHalt_straps (s : State) : (s.readHalt).straps = s.straps := by
  unfold State.readHalt; split <;> simp
@[simp] theorem State.readHalt_unitNumber (s : State) : (s.readHalt).unitNumber = s.unitNumber := by
  unfold State.readHalt; split <;> simp
@[simp] theorem State.readHalt_frame (s : State) : (s.readHalt).frame = s.frame := by
  unfold State.readHalt; split <;> simp
@[simp] theorem State.readHalt_exch (s : State) : (s.readHalt).exch = s.exch := by
  unfold State.readHalt; split <;> simp
@[simp] theorem State.readHalt_roster (s : State) : (s.readHalt).roster = s.roster := by
  unfold State.readHalt; split <;> simp
@[simp] theorem State.readHalt_dmd (s : State) : (s.readHalt).dmd = s.dmd := by
  unfold State.readHalt; split <;> simp
@[simp] theorem State.readHalt_inputs (s : State) : (s.readHalt).inputs = s.inputs := by
  unfold State.readHalt; split <;> simp
@[simp] theorem State.readHalt_choices (s : State) : (s.readHalt).choices = s.choices := by
  unfold State.readHalt; split <;> simp
@[simp] theorem State.readHalt_pending (s : State) : (s.readHalt).pending = s.pending := by
  unfold State.readHalt; split <;> simp
@[simp] theorem State.readHalt_config (s : State) : (s.readHalt).port.config = s.port.config := by
  unfold State.readHalt; split <;> simp

@[simp] theorem State.enterDecision_straps (s : State) (d : Decision) : (s.enterDecision d).straps = s.straps := by
  unfold State.enterDecision; split <;> simp
@[simp] theorem State.enterDecision_unitNumber (s : State) (d : Decision) : (s.enterDecision d).unitNumber = s.unitNumber := by
  unfold State.enterDecision; split <;> simp
@[simp] theorem State.enterDecision_frame (s : State) (d : Decision) : (s.enterDecision d).frame = s.frame := by
  unfold State.enterDecision; split <;> simp
@[simp] theorem State.enterDecision_exch (s : State) (d : Decision) : (s.enterDecision d).exch = s.exch := by
  unfold State.enterDecision; split <;> simp
@[simp] theorem State.enterDecision_roster (s : State) (d : Decision) : (s.enterDecision d).roster = s.roster := by
  unfold State.enterDecision; split <;> simp
@[simp] theorem State.enterDecision_dmd (s : State) (d : Decision) : (s.enterDecision d).dmd = s.dmd := by
  unfold State.enterDecision; split <;> simp
@[simp] theorem State.enterDecision_port (s : State) (d : Decision) : (s.enterDecision d).port = s.port := by
  unfold State.enterDecision; split <;> simp
@[simp] theorem State.enterDecision_inputs (s : State) (d : Decision) : (s.enterDecision d).inputs = s.inputs := by
  unfold State.enterDecision; split <;> simp
@[simp] theorem State.enterDecision_choices (s : State) (d : Decision) : (s.enterDecision d).choices = s.choices := by
  unfold State.enterDecision; split <;> simp
@[simp] theorem State.enterDecision_pending (s : State) (d : Decision) : (s.enterDecision d).pending = s.pending := by
  unfold State.enterDecision; split <;> simp

@[simp] theorem State.takeDecided_straps (s : State) : (s.takeDecided).straps = s.straps := by
  unfold State.takeDecided; split <;> simp
@[simp] theorem State.takeDecided_unitNumber (s : State) : (s.takeDecided).unitNumber = s.unitNumber := by
  unfold State.takeDecided; split <;> simp
@[simp] theorem State.takeDecided_frame (s : State) : (s.takeDecided).frame = s.frame := by
  unfold State.takeDecided; split <;> simp
@[simp] theorem State.takeDecided_exch (s : State) : (s.takeDecided).exch = s.exch := by
  unfold State.takeDecided; split <;> simp
@[simp] theorem State.takeDecided_roster (s : State) : (s.takeDecided).roster = s.roster := by
  unfold State.takeDecided; split <;> simp
@[simp] theorem State.takeDecided_dmd (s : State) : (s.takeDecided).dmd = s.dmd := by
  unfold State.takeDecided; split <;> simp
@[simp] theorem State.takeDecided_port (s : State) : (s.takeDecided).port = s.port := by
  unfold State.takeDecided; split <;> simp
@[simp] theorem State.takeDecided_inputs (s : State) : (s.takeDecided).inputs = s.inputs := by
  unfold State.takeDecided; split <;> simp
@[simp] theorem State.takeDecided_choices (s : State) : (s.takeDecided).choices = s.choices := by
  unfold State.takeDecided; split <;> simp
@[simp] theorem State.takeDecided_pending (s : State) : (s.takeDecided).pending = s.pending := by
  unfold State.takeDecided; split <;> simp

/-! ## Housekeeping -/

@[simp] theorem State.stepTally_straps (s : State) : (s.stepTally).straps = s.straps := by
  unfold State.stepTally; split <;> simp
@[simp] theorem State.stepTally_unitNumber (s : State) : (s.stepTally).unitNumber = s.unitNumber := by
  unfold State.stepTally; split <;> simp
@[simp] theorem State.stepTally_frame (s : State) : (s.stepTally).frame = s.frame := by
  unfold State.stepTally; split <;> simp
@[simp] theorem State.stepTally_exch (s : State) : (s.stepTally).exch = s.exch := by
  unfold State.stepTally; split <;> simp
@[simp] theorem State.stepTally_roster (s : State) : (s.stepTally).roster = s.roster := by
  unfold State.stepTally; split <;> simp
@[simp] theorem State.stepTally_ctl (s : State) : (s.stepTally).ctl = s.ctl := by
  unfold State.stepTally; split <;> simp
@[simp] theorem State.stepTally_gen (s : State) : (s.stepTally).gen = s.gen := by
  unfold State.stepTally; split <;> simp
@[simp] theorem State.stepTally_dmd (s : State) : (s.stepTally).dmd = s.dmd := by
  unfold State.stepTally; split <;> simp
@[simp] theorem State.stepTally_inputs (s : State) : (s.stepTally).inputs = s.inputs := by
  unfold State.stepTally; split <;> simp
@[simp] theorem State.stepTally_choices (s : State) : (s.stepTally).choices = s.choices := by
  unfold State.stepTally; split <;> simp
@[simp] theorem State.stepTally_pending (s : State) : (s.stepTally).pending = s.pending := by
  unfold State.stepTally; split <;> simp
@[simp] theorem State.stepTally_config (s : State) : (s.stepTally).port.config = s.port.config := by
  unfold State.stepTally; split <;> simp

/-! ## The word close -/

@[simp] theorem State.closeRoster_straps (s : State) (r : WordRecord) : (s.closeRoster r).straps = s.straps := by
  unfold State.closeRoster; split <;> simp
@[simp] theorem State.closeRoster_unitNumber (s : State) (r : WordRecord) : (s.closeRoster r).unitNumber = s.unitNumber := by
  unfold State.closeRoster; split <;> simp
@[simp] theorem State.closeRoster_frame (s : State) (r : WordRecord) : (s.closeRoster r).frame = s.frame := by
  unfold State.closeRoster; split <;> simp
@[simp] theorem State.closeRoster_exch (s : State) (r : WordRecord) : (s.closeRoster r).exch = s.exch := by
  unfold State.closeRoster; split <;> simp
@[simp] theorem State.closeRoster_ctl (s : State) (r : WordRecord) : (s.closeRoster r).ctl = s.ctl := by
  unfold State.closeRoster; split <;> simp
@[simp] theorem State.closeRoster_gen (s : State) (r : WordRecord) : (s.closeRoster r).gen = s.gen := by
  unfold State.closeRoster; split <;> simp
@[simp] theorem State.closeRoster_meas (s : State) (r : WordRecord) : (s.closeRoster r).meas = s.meas := by
  unfold State.closeRoster; split <;> simp
@[simp] theorem State.closeRoster_dmd (s : State) (r : WordRecord) : (s.closeRoster r).dmd = s.dmd := by
  unfold State.closeRoster; split <;> simp
@[simp] theorem State.closeRoster_inputs (s : State) (r : WordRecord) : (s.closeRoster r).inputs = s.inputs := by
  unfold State.closeRoster; split <;> simp
@[simp] theorem State.closeRoster_choices (s : State) (r : WordRecord) : (s.closeRoster r).choices = s.choices := by
  unfold State.closeRoster; split <;> simp
@[simp] theorem State.closeRoster_pending (s : State) (r : WordRecord) : (s.closeRoster r).pending = s.pending := by
  unfold State.closeRoster; split <;> simp
@[simp] theorem State.closeRoster_config (s : State) (r : WordRecord) : (s.closeRoster r).port.config = s.port.config := by
  unfold State.closeRoster; split <;> simp

@[simp] theorem State.closeRequest_straps (s : State) : (s.closeRequest).straps = s.straps := rfl
@[simp] theorem State.closeRequest_unitNumber (s : State) : (s.closeRequest).unitNumber = s.unitNumber := rfl
@[simp] theorem State.closeRequest_frame (s : State) : (s.closeRequest).frame = s.frame := rfl
@[simp] theorem State.closeRequest_exch (s : State) : (s.closeRequest).exch = s.exch := rfl
@[simp] theorem State.closeRequest_roster (s : State) : (s.closeRequest).roster = s.roster := rfl
@[simp] theorem State.closeRequest_gen (s : State) : (s.closeRequest).gen = s.gen := rfl
@[simp] theorem State.closeRequest_meas (s : State) : (s.closeRequest).meas = s.meas := rfl
@[simp] theorem State.closeRequest_dmd (s : State) : (s.closeRequest).dmd = s.dmd := rfl
@[simp] theorem State.closeRequest_port (s : State) : (s.closeRequest).port = s.port := rfl
@[simp] theorem State.closeRequest_inputs (s : State) : (s.closeRequest).inputs = s.inputs := rfl
@[simp] theorem State.closeRequest_choices (s : State) : (s.closeRequest).choices = s.choices := rfl
@[simp] theorem State.closeRequest_pending (s : State) : (s.closeRequest).pending = s.pending := rfl

@[simp] theorem State.setDecided_straps (s : State) (d : Option Decision) : (s.setDecided d).straps = s.straps := rfl
@[simp] theorem State.setDecided_unitNumber (s : State) (d : Option Decision) : (s.setDecided d).unitNumber = s.unitNumber := rfl
@[simp] theorem State.setDecided_frame (s : State) (d : Option Decision) : (s.setDecided d).frame = s.frame := rfl
@[simp] theorem State.setDecided_exch (s : State) (d : Option Decision) : (s.setDecided d).exch = s.exch := rfl
@[simp] theorem State.setDecided_roster (s : State) (d : Option Decision) : (s.setDecided d).roster = s.roster := rfl
@[simp] theorem State.setDecided_gen (s : State) (d : Option Decision) : (s.setDecided d).gen = s.gen := rfl
@[simp] theorem State.setDecided_meas (s : State) (d : Option Decision) : (s.setDecided d).meas = s.meas := rfl
@[simp] theorem State.setDecided_dmd (s : State) (d : Option Decision) : (s.setDecided d).dmd = s.dmd := rfl
@[simp] theorem State.setDecided_port (s : State) (d : Option Decision) : (s.setDecided d).port = s.port := rfl
@[simp] theorem State.setDecided_inputs (s : State) (d : Option Decision) : (s.setDecided d).inputs = s.inputs := rfl
@[simp] theorem State.setDecided_choices (s : State) (d : Option Decision) : (s.setDecided d).choices = s.choices := rfl
@[simp] theorem State.setDecided_pending (s : State) (d : Option Decision) : (s.setDecided d).pending = s.pending := rfl

@[simp] theorem State.closeCheck_straps (s : State) (b : Bool) : (s.closeCheck b).straps = s.straps := by
  unfold State.closeCheck; (repeat' split) <;> simp
@[simp] theorem State.closeCheck_unitNumber (s : State) (b : Bool) : (s.closeCheck b).unitNumber = s.unitNumber := by
  unfold State.closeCheck; (repeat' split) <;> simp
@[simp] theorem State.closeCheck_exch (s : State) (b : Bool) : (s.closeCheck b).exch = s.exch := by
  unfold State.closeCheck; (repeat' split) <;> simp
@[simp] theorem State.closeCheck_roster (s : State) (b : Bool) : (s.closeCheck b).roster = s.roster := by
  unfold State.closeCheck; (repeat' split) <;> simp
@[simp] theorem State.closeCheck_dmd (s : State) (b : Bool) : (s.closeCheck b).dmd = s.dmd := by
  unfold State.closeCheck; (repeat' split) <;> simp
@[simp] theorem State.closeCheck_inputs (s : State) (b : Bool) : (s.closeCheck b).inputs = s.inputs := by
  unfold State.closeCheck; (repeat' split) <;> simp
@[simp] theorem State.closeCheck_choices (s : State) (b : Bool) : (s.closeCheck b).choices = s.choices := by
  unfold State.closeCheck; (repeat' split) <;> simp
@[simp] theorem State.closeCheck_pending (s : State) (b : Bool) : (s.closeCheck b).pending = s.pending := by
  unfold State.closeCheck; (repeat' split) <;> simp
@[simp] theorem State.closeCheck_config (s : State) (b : Bool) : (s.closeCheck b).port.config = s.port.config := by
  unfold State.closeCheck; (repeat' split) <;> simp

@[simp] theorem State.closeShed_straps (s : State) : (s.closeShed).straps = s.straps := by
  unfold State.closeShed; split <;> simp
@[simp] theorem State.closeShed_unitNumber (s : State) : (s.closeShed).unitNumber = s.unitNumber := by
  unfold State.closeShed; split <;> simp
@[simp] theorem State.closeShed_frame (s : State) : (s.closeShed).frame = s.frame := by
  unfold State.closeShed; split <;> simp
@[simp] theorem State.closeShed_exch (s : State) : (s.closeShed).exch = s.exch := by
  unfold State.closeShed; split <;> simp
@[simp] theorem State.closeShed_roster (s : State) : (s.closeShed).roster = s.roster := by
  unfold State.closeShed; split <;> simp
@[simp] theorem State.closeShed_gen (s : State) : (s.closeShed).gen = s.gen := by
  unfold State.closeShed; split <;> simp
@[simp] theorem State.closeShed_meas (s : State) : (s.closeShed).meas = s.meas := by
  unfold State.closeShed; split <;> simp
@[simp] theorem State.closeShed_dmd (s : State) : (s.closeShed).dmd = s.dmd := by
  unfold State.closeShed; split <;> simp
@[simp] theorem State.closeShed_port (s : State) : (s.closeShed).port = s.port := by
  unfold State.closeShed; split <;> simp
@[simp] theorem State.closeShed_inputs (s : State) : (s.closeShed).inputs = s.inputs := by
  unfold State.closeShed; split <;> simp
@[simp] theorem State.closeShed_choices (s : State) : (s.closeShed).choices = s.choices := by
  unfold State.closeShed; split <;> simp
@[simp] theorem State.closeShed_pending (s : State) : (s.closeShed).pending = s.pending := by
  unfold State.closeShed; split <;> simp

@[simp] theorem State.closeHold_straps (s : State) : (s.closeHold).straps = s.straps := rfl
@[simp] theorem State.closeHold_unitNumber (s : State) : (s.closeHold).unitNumber = s.unitNumber := rfl
@[simp] theorem State.closeHold_frame (s : State) : (s.closeHold).frame = s.frame := rfl
@[simp] theorem State.closeHold_exch (s : State) : (s.closeHold).exch = s.exch := rfl
@[simp] theorem State.closeHold_roster (s : State) : (s.closeHold).roster = s.roster := rfl
@[simp] theorem State.closeHold_gen (s : State) : (s.closeHold).gen = s.gen := rfl
@[simp] theorem State.closeHold_meas (s : State) : (s.closeHold).meas = s.meas := rfl
@[simp] theorem State.closeHold_dmd (s : State) : (s.closeHold).dmd = s.dmd := rfl
@[simp] theorem State.closeHold_port (s : State) : (s.closeHold).port = s.port := rfl
@[simp] theorem State.closeHold_inputs (s : State) : (s.closeHold).inputs = s.inputs := rfl
@[simp] theorem State.closeHold_choices (s : State) : (s.closeHold).choices = s.choices := rfl
@[simp] theorem State.closeHold_pending (s : State) : (s.closeHold).pending = s.pending := rfl

@[simp] theorem State.closeAside_straps (s : State) : (s.closeAside).straps = s.straps := by
  unfold State.closeAside; split <;> simp
@[simp] theorem State.closeAside_unitNumber (s : State) : (s.closeAside).unitNumber = s.unitNumber := by
  unfold State.closeAside; split <;> simp
@[simp] theorem State.closeAside_frame (s : State) : (s.closeAside).frame = s.frame := by
  unfold State.closeAside; split <;> simp
@[simp] theorem State.closeAside_exch (s : State) : (s.closeAside).exch = s.exch := by
  unfold State.closeAside; split <;> simp
@[simp] theorem State.closeAside_gen (s : State) : (s.closeAside).gen = s.gen := by
  unfold State.closeAside; split <;> simp
@[simp] theorem State.closeAside_meas (s : State) : (s.closeAside).meas = s.meas := by
  unfold State.closeAside; split <;> simp
@[simp] theorem State.closeAside_dmd (s : State) : (s.closeAside).dmd = s.dmd := by
  unfold State.closeAside; split <;> simp
@[simp] theorem State.closeAside_port (s : State) : (s.closeAside).port = s.port := by
  unfold State.closeAside; split <;> simp
@[simp] theorem State.closeAside_inputs (s : State) : (s.closeAside).inputs = s.inputs := by
  unfold State.closeAside; split <;> simp
@[simp] theorem State.closeAside_choices (s : State) : (s.closeAside).choices = s.choices := by
  unfold State.closeAside; split <;> simp
@[simp] theorem State.closeAside_pending (s : State) : (s.closeAside).pending = s.pending := by
  unfold State.closeAside; split <;> simp

@[simp] theorem State.closeState_straps (s : State) (b : Bool) : (s.closeState b).straps = s.straps := by
  unfold State.closeState; split <;> simp
@[simp] theorem State.closeState_unitNumber (s : State) (b : Bool) : (s.closeState b).unitNumber = s.unitNumber := by
  unfold State.closeState; split <;> simp
@[simp] theorem State.closeState_exch (s : State) (b : Bool) : (s.closeState b).exch = s.exch := by
  unfold State.closeState; split <;> simp
@[simp] theorem State.closeState_dmd (s : State) (b : Bool) : (s.closeState b).dmd = s.dmd := by
  unfold State.closeState; split <;> simp
@[simp] theorem State.closeState_inputs (s : State) (b : Bool) : (s.closeState b).inputs = s.inputs := by
  unfold State.closeState; split <;> simp
@[simp] theorem State.closeState_choices (s : State) (b : Bool) : (s.closeState b).choices = s.choices := by
  unfold State.closeState; split <;> simp
@[simp] theorem State.closeState_pending (s : State) (b : Bool) : (s.closeState b).pending = s.pending := by
  unfold State.closeState; split <;> simp
@[simp] theorem State.closeState_config (s : State) (b : Bool) : (s.closeState b).port.config = s.port.config := by
  unfold State.closeState; split <;> simp

@[simp] theorem State.closeTrim_straps (s : State) (r : WordRecord) : (s.closeTrim r).straps = s.straps := by
  unfold State.closeTrim; split <;> simp
@[simp] theorem State.closeTrim_unitNumber (s : State) (r : WordRecord) : (s.closeTrim r).unitNumber = s.unitNumber := by
  unfold State.closeTrim; split <;> simp
@[simp] theorem State.closeTrim_frame (s : State) (r : WordRecord) : (s.closeTrim r).frame = s.frame := by
  unfold State.closeTrim; split <;> simp
@[simp] theorem State.closeTrim_exch (s : State) (r : WordRecord) : (s.closeTrim r).exch = s.exch := by
  unfold State.closeTrim; split <;> simp
@[simp] theorem State.closeTrim_roster (s : State) (r : WordRecord) : (s.closeTrim r).roster = s.roster := by
  unfold State.closeTrim; split <;> simp
@[simp] theorem State.closeTrim_ctl (s : State) (r : WordRecord) : (s.closeTrim r).ctl = s.ctl := by
  unfold State.closeTrim; split <;> simp
@[simp] theorem State.closeTrim_gen (s : State) (r : WordRecord) : (s.closeTrim r).gen = s.gen := by
  unfold State.closeTrim; split <;> simp
@[simp] theorem State.closeTrim_dmd (s : State) (r : WordRecord) : (s.closeTrim r).dmd = s.dmd := by
  unfold State.closeTrim; split <;> simp
@[simp] theorem State.closeTrim_inputs (s : State) (r : WordRecord) : (s.closeTrim r).inputs = s.inputs := by
  unfold State.closeTrim; split <;> simp
@[simp] theorem State.closeTrim_choices (s : State) (r : WordRecord) : (s.closeTrim r).choices = s.choices := by
  unfold State.closeTrim; split <;> simp
@[simp] theorem State.closeTrim_pending (s : State) (r : WordRecord) : (s.closeTrim r).pending = s.pending := by
  unfold State.closeTrim; split <;> simp
@[simp] theorem State.closeTrim_config (s : State) (r : WordRecord) : (s.closeTrim r).port.config = s.port.config := by
  unfold State.closeTrim; split <;> simp

@[simp] theorem State.closeShare_straps (s : State) (r : WordRecord) : (s.closeShare r).straps = s.straps := rfl
@[simp] theorem State.closeShare_unitNumber (s : State) (r : WordRecord) : (s.closeShare r).unitNumber = s.unitNumber := rfl
@[simp] theorem State.closeShare_frame (s : State) (r : WordRecord) : (s.closeShare r).frame = s.frame := rfl
@[simp] theorem State.closeShare_exch (s : State) (r : WordRecord) : (s.closeShare r).exch = s.exch := rfl
@[simp] theorem State.closeShare_roster (s : State) (r : WordRecord) : (s.closeShare r).roster = s.roster := rfl
@[simp] theorem State.closeShare_ctl (s : State) (r : WordRecord) : (s.closeShare r).ctl = s.ctl := rfl
@[simp] theorem State.closeShare_gen (s : State) (r : WordRecord) : (s.closeShare r).gen = s.gen := rfl
@[simp] theorem State.closeShare_dmd (s : State) (r : WordRecord) : (s.closeShare r).dmd = s.dmd := rfl
@[simp] theorem State.closeShare_port (s : State) (r : WordRecord) : (s.closeShare r).port = s.port := rfl
@[simp] theorem State.closeShare_inputs (s : State) (r : WordRecord) : (s.closeShare r).inputs = s.inputs := rfl
@[simp] theorem State.closeShare_choices (s : State) (r : WordRecord) : (s.closeShare r).choices = s.choices := rfl
@[simp] theorem State.closeShare_pending (s : State) (r : WordRecord) : (s.closeShare r).pending = s.pending := rfl

@[simp] theorem State.closeHistory_straps (s : State) (r : WordRecord) : (s.closeHistory r).straps = s.straps := rfl
@[simp] theorem State.closeHistory_unitNumber (s : State) (r : WordRecord) : (s.closeHistory r).unitNumber = s.unitNumber := rfl
@[simp] theorem State.closeHistory_frame (s : State) (r : WordRecord) : (s.closeHistory r).frame = s.frame := rfl
@[simp] theorem State.closeHistory_exch (s : State) (r : WordRecord) : (s.closeHistory r).exch = s.exch := rfl
@[simp] theorem State.closeHistory_roster (s : State) (r : WordRecord) : (s.closeHistory r).roster = s.roster := rfl
@[simp] theorem State.closeHistory_ctl (s : State) (r : WordRecord) : (s.closeHistory r).ctl = s.ctl := rfl
@[simp] theorem State.closeHistory_gen (s : State) (r : WordRecord) : (s.closeHistory r).gen = s.gen := rfl
@[simp] theorem State.closeHistory_meas (s : State) (r : WordRecord) : (s.closeHistory r).meas = s.meas := rfl
@[simp] theorem State.closeHistory_dmd (s : State) (r : WordRecord) : (s.closeHistory r).dmd = s.dmd := rfl
@[simp] theorem State.closeHistory_inputs (s : State) (r : WordRecord) : (s.closeHistory r).inputs = s.inputs := rfl
@[simp] theorem State.closeHistory_choices (s : State) (r : WordRecord) : (s.closeHistory r).choices = s.choices := rfl
@[simp] theorem State.closeHistory_pending (s : State) (r : WordRecord) : (s.closeHistory r).pending = s.pending := rfl
@[simp] theorem State.closeHistory_config (s : State) (r : WordRecord) : (s.closeHistory r).port.config = s.port.config := by simp [State.closeHistory]

@[simp] theorem State.closeExchange_straps (s : State) : (s.closeExchange).straps = s.straps := rfl
@[simp] theorem State.closeExchange_unitNumber (s : State) : (s.closeExchange).unitNumber = s.unitNumber := rfl
@[simp] theorem State.closeExchange_roster (s : State) : (s.closeExchange).roster = s.roster := rfl
@[simp] theorem State.closeExchange_ctl (s : State) : (s.closeExchange).ctl = s.ctl := rfl
@[simp] theorem State.closeExchange_gen (s : State) : (s.closeExchange).gen = s.gen := rfl
@[simp] theorem State.closeExchange_meas (s : State) : (s.closeExchange).meas = s.meas := rfl
@[simp] theorem State.closeExchange_dmd (s : State) : (s.closeExchange).dmd = s.dmd := rfl
@[simp] theorem State.closeExchange_port (s : State) : (s.closeExchange).port = s.port := rfl
@[simp] theorem State.closeExchange_inputs (s : State) : (s.closeExchange).inputs = s.inputs := rfl
@[simp] theorem State.closeExchange_choices (s : State) : (s.closeExchange).choices = s.choices := rfl
@[simp] theorem State.closeExchange_pending (s : State) : (s.closeExchange).pending = s.pending := rfl

@[simp] theorem State.closeWord_straps (s : State) : (s.closeWord).straps = s.straps := by simp [State.closeWord]
@[simp] theorem State.closeWord_unitNumber (s : State) : (s.closeWord).unitNumber = s.unitNumber := by simp [State.closeWord]
@[simp] theorem State.closeWord_dmd (s : State) : (s.closeWord).dmd = s.dmd := by simp [State.closeWord]
@[simp] theorem State.closeWord_inputs (s : State) : (s.closeWord).inputs = s.inputs := by simp [State.closeWord]
@[simp] theorem State.closeWord_choices (s : State) : (s.closeWord).choices = s.choices := by simp [State.closeWord]
@[simp] theorem State.closeWord_pending (s : State) : (s.closeWord).pending = s.pending := by simp [State.closeWord]
@[simp] theorem State.closeWord_config (s : State) : (s.closeWord).port.config = s.port.config := by simp [State.closeWord]

/-! ## The bits of the word -/

@[simp] theorem State.openFields_straps (s : State) (i : Nat) : (s.openFields i).straps = s.straps := by
  unfold State.openFields; (repeat' split) <;> simp
@[simp] theorem State.openFields_unitNumber (s : State) (i : Nat) : (s.openFields i).unitNumber = s.unitNumber := by
  unfold State.openFields; (repeat' split) <;> simp
@[simp] theorem State.openFields_frame (s : State) (i : Nat) : (s.openFields i).frame = s.frame := by
  unfold State.openFields; (repeat' split) <;> simp
@[simp] theorem State.openFields_roster (s : State) (i : Nat) : (s.openFields i).roster = s.roster := by
  unfold State.openFields; (repeat' split) <;> simp
@[simp] theorem State.openFields_ctl (s : State) (i : Nat) : (s.openFields i).ctl = s.ctl := by
  unfold State.openFields; (repeat' split) <;> simp
@[simp] theorem State.openFields_gen (s : State) (i : Nat) : (s.openFields i).gen = s.gen := by
  unfold State.openFields; (repeat' split) <;> simp
@[simp] theorem State.openFields_meas (s : State) (i : Nat) : (s.openFields i).meas = s.meas := by
  unfold State.openFields; (repeat' split) <;> simp
@[simp] theorem State.openFields_dmd (s : State) (i : Nat) : (s.openFields i).dmd = s.dmd := by
  unfold State.openFields; (repeat' split) <;> simp
@[simp] theorem State.openFields_port (s : State) (i : Nat) : (s.openFields i).port = s.port := by
  unfold State.openFields; (repeat' split) <;> simp
@[simp] theorem State.openFields_inputs (s : State) (i : Nat) : (s.openFields i).inputs = s.inputs := by
  unfold State.openFields; (repeat' split) <;> simp
@[simp] theorem State.openFields_choices (s : State) (i : Nat) : (s.openFields i).choices = s.choices := by
  unfold State.openFields; (repeat' split) <;> simp
@[simp] theorem State.openFields_pending (s : State) (i : Nat) : (s.openFields i).pending = s.pending := by
  unfold State.openFields; (repeat' split) <;> simp

@[simp] theorem State.keepCheckBit_straps (s : State) (i : Nat) : (s.keepCheckBit i).straps = s.straps := by
  unfold State.keepCheckBit; split <;> simp
@[simp] theorem State.keepCheckBit_unitNumber (s : State) (i : Nat) : (s.keepCheckBit i).unitNumber = s.unitNumber := by
  unfold State.keepCheckBit; split <;> simp
@[simp] theorem State.keepCheckBit_frame (s : State) (i : Nat) : (s.keepCheckBit i).frame = s.frame := by
  unfold State.keepCheckBit; split <;> simp
@[simp] theorem State.keepCheckBit_exch (s : State) (i : Nat) : (s.keepCheckBit i).exch = s.exch := by
  unfold State.keepCheckBit; split <;> simp
@[simp] theorem State.keepCheckBit_ctl (s : State) (i : Nat) : (s.keepCheckBit i).ctl = s.ctl := by
  unfold State.keepCheckBit; split <;> simp
@[simp] theorem State.keepCheckBit_gen (s : State) (i : Nat) : (s.keepCheckBit i).gen = s.gen := by
  unfold State.keepCheckBit; split <;> simp
@[simp] theorem State.keepCheckBit_meas (s : State) (i : Nat) : (s.keepCheckBit i).meas = s.meas := by
  unfold State.keepCheckBit; split <;> simp
@[simp] theorem State.keepCheckBit_dmd (s : State) (i : Nat) : (s.keepCheckBit i).dmd = s.dmd := by
  unfold State.keepCheckBit; split <;> simp
@[simp] theorem State.keepCheckBit_port (s : State) (i : Nat) : (s.keepCheckBit i).port = s.port := by
  unfold State.keepCheckBit; split <;> simp
@[simp] theorem State.keepCheckBit_inputs (s : State) (i : Nat) : (s.keepCheckBit i).inputs = s.inputs := by
  unfold State.keepCheckBit; split <;> simp
@[simp] theorem State.keepCheckBit_choices (s : State) (i : Nat) : (s.keepCheckBit i).choices = s.choices := by
  unfold State.keepCheckBit; split <;> simp
@[simp] theorem State.keepCheckBit_pending (s : State) (i : Nat) : (s.keepCheckBit i).pending = s.pending := by
  unfold State.keepCheckBit; split <;> simp

@[simp] theorem State.driveFrame_straps (s : State) (i : Nat) : (s.driveFrame i).straps = s.straps := by
  unfold State.driveFrame; split <;> simp
@[simp] theorem State.driveFrame_unitNumber (s : State) (i : Nat) : (s.driveFrame i).unitNumber = s.unitNumber := by
  unfold State.driveFrame; split <;> simp
@[simp] theorem State.driveFrame_frame (s : State) (i : Nat) : (s.driveFrame i).frame = s.frame := by
  unfold State.driveFrame; split <;> simp
@[simp] theorem State.driveFrame_ctl (s : State) (i : Nat) : (s.driveFrame i).ctl = s.ctl := by
  unfold State.driveFrame; split <;> simp
@[simp] theorem State.driveFrame_gen (s : State) (i : Nat) : (s.driveFrame i).gen = s.gen := by
  unfold State.driveFrame; split <;> simp
@[simp] theorem State.driveFrame_meas (s : State) (i : Nat) : (s.driveFrame i).meas = s.meas := by
  unfold State.driveFrame; split <;> simp
@[simp] theorem State.driveFrame_dmd (s : State) (i : Nat) : (s.driveFrame i).dmd = s.dmd := by
  unfold State.driveFrame; split <;> simp
@[simp] theorem State.driveFrame_port (s : State) (i : Nat) : (s.driveFrame i).port = s.port := by
  unfold State.driveFrame; split <;> simp
@[simp] theorem State.driveFrame_inputs (s : State) (i : Nat) : (s.driveFrame i).inputs = s.inputs := by
  unfold State.driveFrame; split <;> simp
@[simp] theorem State.driveFrame_choices (s : State) (i : Nat) : (s.driveFrame i).choices = s.choices := by
  unfold State.driveFrame; split <;> simp
@[simp] theorem State.driveFrame_pending (s : State) (i : Nat) : (s.driveFrame i).pending = s.pending := by
  unfold State.driveFrame; split <;> simp

@[simp] theorem State.enterBit_straps (s : State) (i : Nat) (r : ReadBit) : (s.enterBit i r).straps = s.straps := by
  unfold State.enterBit; (repeat' split) <;> simp
@[simp] theorem State.enterBit_unitNumber (s : State) (i : Nat) (r : ReadBit) : (s.enterBit i r).unitNumber = s.unitNumber := by
  unfold State.enterBit; (repeat' split) <;> simp
@[simp] theorem State.enterBit_roster (s : State) (i : Nat) (r : ReadBit) : (s.enterBit i r).roster = s.roster := by
  unfold State.enterBit; (repeat' split) <;> simp
@[simp] theorem State.enterBit_dmd (s : State) (i : Nat) (r : ReadBit) : (s.enterBit i r).dmd = s.dmd := by
  unfold State.enterBit; (repeat' split) <;> simp
@[simp] theorem State.enterBit_inputs (s : State) (i : Nat) (r : ReadBit) : (s.enterBit i r).inputs = s.inputs := by
  unfold State.enterBit; (repeat' split) <;> simp
@[simp] theorem State.enterBit_choices (s : State) (i : Nat) (r : ReadBit) : (s.enterBit i r).choices = s.choices := by
  unfold State.enterBit; (repeat' split) <;> simp
@[simp] theorem State.enterBit_pending (s : State) (i : Nat) (r : ReadBit) : (s.enterBit i r).pending = s.pending := by
  unfold State.enterBit; (repeat' split) <;> simp
@[simp] theorem State.enterBit_config (s : State) (i : Nat) (r : ReadBit) : (s.enterBit i r).port.config = s.port.config := by
  unfold State.enterBit; (repeat' split) <;> simp

@[simp] theorem State.bitTime_straps (s : State) (i : Nat) (r : ReadBit) : (s.bitTime i r).straps = s.straps := by simp [State.bitTime]
@[simp] theorem State.bitTime_unitNumber (s : State) (i : Nat) (r : ReadBit) : (s.bitTime i r).unitNumber = s.unitNumber := by simp [State.bitTime]
@[simp] theorem State.bitTime_roster (s : State) (i : Nat) (r : ReadBit) : (s.bitTime i r).roster = s.roster := by simp [State.bitTime]
@[simp] theorem State.bitTime_dmd (s : State) (i : Nat) (r : ReadBit) : (s.bitTime i r).dmd = s.dmd := by simp [State.bitTime]
@[simp] theorem State.bitTime_inputs (s : State) (i : Nat) (r : ReadBit) : (s.bitTime i r).inputs = s.inputs := by simp [State.bitTime]
@[simp] theorem State.bitTime_choices (s : State) (i : Nat) (r : ReadBit) : (s.bitTime i r).choices = s.choices := by simp [State.bitTime]
@[simp] theorem State.bitTime_pending (s : State) (i : Nat) (r : ReadBit) : (s.bitTime i r).pending = s.pending := by simp [State.bitTime]
@[simp] theorem State.bitTime_config (s : State) (i : Nat) (r : ReadBit) : (s.bitTime i r).port.config = s.port.config := by simp [State.bitTime]

/-! ## The frame line -/

@[simp] theorem State.qualifyFrm_straps (s : State) (v : Bool) : (s.qualifyFrm v).straps = s.straps := rfl
@[simp] theorem State.qualifyFrm_unitNumber (s : State) (v : Bool) : (s.qualifyFrm v).unitNumber = s.unitNumber := rfl
@[simp] theorem State.qualifyFrm_exch (s : State) (v : Bool) : (s.qualifyFrm v).exch = s.exch := rfl
@[simp] theorem State.qualifyFrm_roster (s : State) (v : Bool) : (s.qualifyFrm v).roster = s.roster := rfl
@[simp] theorem State.qualifyFrm_ctl (s : State) (v : Bool) : (s.qualifyFrm v).ctl = s.ctl := rfl
@[simp] theorem State.qualifyFrm_gen (s : State) (v : Bool) : (s.qualifyFrm v).gen = s.gen := rfl
@[simp] theorem State.qualifyFrm_meas (s : State) (v : Bool) : (s.qualifyFrm v).meas = s.meas := rfl
@[simp] theorem State.qualifyFrm_dmd (s : State) (v : Bool) : (s.qualifyFrm v).dmd = s.dmd := rfl
@[simp] theorem State.qualifyFrm_port (s : State) (v : Bool) : (s.qualifyFrm v).port = s.port := rfl
@[simp] theorem State.qualifyFrm_inputs (s : State) (v : Bool) : (s.qualifyFrm v).inputs = s.inputs := rfl
@[simp] theorem State.qualifyFrm_choices (s : State) (v : Bool) : (s.qualifyFrm v).choices = s.choices := rfl
@[simp] theorem State.qualifyFrm_pending (s : State) (v : Bool) : (s.qualifyFrm v).pending = s.pending := rfl

@[simp] theorem State.takeWait_straps (s : State) : (s.takeWait).straps = s.straps := by
  unfold State.takeWait; split <;> simp
@[simp] theorem State.takeWait_unitNumber (s : State) : (s.takeWait).unitNumber = s.unitNumber := by
  unfold State.takeWait; split <;> simp
@[simp] theorem State.takeWait_exch (s : State) : (s.takeWait).exch = s.exch := by
  unfold State.takeWait; split <;> simp
@[simp] theorem State.takeWait_roster (s : State) : (s.takeWait).roster = s.roster := by
  unfold State.takeWait; split <;> simp
@[simp] theorem State.takeWait_ctl (s : State) : (s.takeWait).ctl = s.ctl := by
  unfold State.takeWait; split <;> simp
@[simp] theorem State.takeWait_gen (s : State) : (s.takeWait).gen = s.gen := by
  unfold State.takeWait; split <;> simp
@[simp] theorem State.takeWait_meas (s : State) : (s.takeWait).meas = s.meas := by
  unfold State.takeWait; split <;> simp
@[simp] theorem State.takeWait_dmd (s : State) : (s.takeWait).dmd = s.dmd := by
  unfold State.takeWait; split <;> simp
@[simp] theorem State.takeWait_inputs (s : State) : (s.takeWait).inputs = s.inputs := by
  unfold State.takeWait; split <;> simp
@[simp] theorem State.takeWait_choices (s : State) : (s.takeWait).choices = s.choices := by
  unfold State.takeWait; split <;> simp
@[simp] theorem State.takeWait_pending (s : State) : (s.takeWait).pending = s.pending := by
  unfold State.takeWait; split <;> simp
@[simp] theorem State.takeWait_config (s : State) : (s.takeWait).port.config = s.port.config := by
  unfold State.takeWait; split <;> simp

@[simp] theorem State.rampRise_straps (s : State) : (s.rampRise).straps = s.straps := rfl
@[simp] theorem State.rampRise_unitNumber (s : State) : (s.rampRise).unitNumber = s.unitNumber := rfl
@[simp] theorem State.rampRise_frame (s : State) : (s.rampRise).frame = s.frame := rfl
@[simp] theorem State.rampRise_exch (s : State) : (s.rampRise).exch = s.exch := rfl
@[simp] theorem State.rampRise_roster (s : State) : (s.rampRise).roster = s.roster := rfl
@[simp] theorem State.rampRise_ctl (s : State) : (s.rampRise).ctl = s.ctl := rfl
@[simp] theorem State.rampRise_meas (s : State) : (s.rampRise).meas = s.meas := rfl
@[simp] theorem State.rampRise_dmd (s : State) : (s.rampRise).dmd = s.dmd := rfl
@[simp] theorem State.rampRise_port (s : State) : (s.rampRise).port = s.port := rfl
@[simp] theorem State.rampRise_inputs (s : State) : (s.rampRise).inputs = s.inputs := rfl
@[simp] theorem State.rampRise_choices (s : State) : (s.rampRise).choices = s.choices := rfl
@[simp] theorem State.rampRise_pending (s : State) : (s.rampRise).pending = s.pending := rfl

@[simp] theorem State.warmRise_straps (s : State) : (s.warmRise).straps = s.straps := by
  unfold State.warmRise; split <;> simp
@[simp] theorem State.warmRise_unitNumber (s : State) : (s.warmRise).unitNumber = s.unitNumber := by
  unfold State.warmRise; split <;> simp
@[simp] theorem State.warmRise_frame (s : State) : (s.warmRise).frame = s.frame := by
  unfold State.warmRise; split <;> simp
@[simp] theorem State.warmRise_exch (s : State) : (s.warmRise).exch = s.exch := by
  unfold State.warmRise; split <;> simp
@[simp] theorem State.warmRise_roster (s : State) : (s.warmRise).roster = s.roster := by
  unfold State.warmRise; split <;> simp
@[simp] theorem State.warmRise_gen (s : State) : (s.warmRise).gen = s.gen := by
  unfold State.warmRise; split <;> simp
@[simp] theorem State.warmRise_meas (s : State) : (s.warmRise).meas = s.meas := by
  unfold State.warmRise; split <;> simp
@[simp] theorem State.warmRise_dmd (s : State) : (s.warmRise).dmd = s.dmd := by
  unfold State.warmRise; split <;> simp
@[simp] theorem State.warmRise_port (s : State) : (s.warmRise).port = s.port := by
  unfold State.warmRise; split <;> simp
@[simp] theorem State.warmRise_inputs (s : State) : (s.warmRise).inputs = s.inputs := by
  unfold State.warmRise; split <;> simp
@[simp] theorem State.warmRise_choices (s : State) : (s.warmRise).choices = s.choices := by
  unfold State.warmRise; split <;> simp
@[simp] theorem State.warmRise_pending (s : State) : (s.warmRise).pending = s.pending := by
  unfold State.warmRise; split <;> simp

@[simp] theorem State.wordStart_straps (s : State) (b : Bool) : (s.wordStart b).straps = s.straps := by
  unfold State.wordStart; split <;> simp
@[simp] theorem State.wordStart_unitNumber (s : State) (b : Bool) : (s.wordStart b).unitNumber = s.unitNumber := by
  unfold State.wordStart; split <;> simp
@[simp] theorem State.wordStart_frame (s : State) (b : Bool) : (s.wordStart b).frame = s.frame := by
  unfold State.wordStart; split <;> simp
@[simp] theorem State.wordStart_exch (s : State) (b : Bool) : (s.wordStart b).exch = s.exch := by
  unfold State.wordStart; split <;> simp
@[simp] theorem State.wordStart_roster (s : State) (b : Bool) : (s.wordStart b).roster = s.roster := by
  unfold State.wordStart; split <;> simp
@[simp] theorem State.wordStart_dmd (s : State) (b : Bool) : (s.wordStart b).dmd = s.dmd := by
  unfold State.wordStart; split <;> simp
@[simp] theorem State.wordStart_port (s : State) (b : Bool) : (s.wordStart b).port = s.port := by
  unfold State.wordStart; split <;> simp
@[simp] theorem State.wordStart_inputs (s : State) (b : Bool) : (s.wordStart b).inputs = s.inputs := by
  unfold State.wordStart; split <;> simp
@[simp] theorem State.wordStart_choices (s : State) (b : Bool) : (s.wordStart b).choices = s.choices := by
  unfold State.wordStart; split <;> simp
@[simp] theorem State.wordStart_pending (s : State) (b : Bool) : (s.wordStart b).pending = s.pending := by
  unfold State.wordStart; split <;> simp

@[simp] theorem State.startFrame_straps (s : State) (i : Fin 30) : (s.startFrame i).straps = s.straps := by simp [State.startFrame]
@[simp] theorem State.startFrame_unitNumber (s : State) (i : Fin 30) : (s.startFrame i).unitNumber = s.unitNumber := by simp [State.startFrame]
@[simp] theorem State.startFrame_roster (s : State) (i : Fin 30) : (s.startFrame i).roster = s.roster := by simp [State.startFrame]
@[simp] theorem State.startFrame_dmd (s : State) (i : Fin 30) : (s.startFrame i).dmd = s.dmd := by simp [State.startFrame]
@[simp] theorem State.startFrame_inputs (s : State) (i : Fin 30) : (s.startFrame i).inputs = s.inputs := by simp [State.startFrame]
@[simp] theorem State.startFrame_choices (s : State) (i : Fin 30) : (s.startFrame i).choices = s.choices := by simp [State.startFrame]
@[simp] theorem State.startFrame_pending (s : State) (i : Fin 30) : (s.startFrame i).pending = s.pending := by simp [State.startFrame]
@[simp] theorem State.startFrame_config (s : State) (i : Fin 30) : (s.startFrame i).port.config = s.port.config := by simp [State.startFrame]

@[simp] theorem State.judgeCutFrame_straps (s : State) : (s.judgeCutFrame).straps = s.straps := by
  unfold State.judgeCutFrame; split <;> simp
@[simp] theorem State.judgeCutFrame_unitNumber (s : State) : (s.judgeCutFrame).unitNumber = s.unitNumber := by
  unfold State.judgeCutFrame; split <;> simp
@[simp] theorem State.judgeCutFrame_roster (s : State) : (s.judgeCutFrame).roster = s.roster := by
  unfold State.judgeCutFrame; split <;> simp
@[simp] theorem State.judgeCutFrame_dmd (s : State) : (s.judgeCutFrame).dmd = s.dmd := by
  unfold State.judgeCutFrame; split <;> simp
@[simp] theorem State.judgeCutFrame_inputs (s : State) : (s.judgeCutFrame).inputs = s.inputs := by
  unfold State.judgeCutFrame; split <;> simp
@[simp] theorem State.judgeCutFrame_choices (s : State) : (s.judgeCutFrame).choices = s.choices := by
  unfold State.judgeCutFrame; split <;> simp
@[simp] theorem State.judgeCutFrame_pending (s : State) : (s.judgeCutFrame).pending = s.pending := by
  unfold State.judgeCutFrame; split <;> simp
@[simp] theorem State.judgeCutFrame_config (s : State) : (s.judgeCutFrame).port.config = s.port.config := by
  unfold State.judgeCutFrame; split <;> simp

@[simp] theorem State.takeDueClose_straps (s : State) : (s.takeDueClose).straps = s.straps := by
  unfold State.takeDueClose; split <;> simp
@[simp] theorem State.takeDueClose_unitNumber (s : State) : (s.takeDueClose).unitNumber = s.unitNumber := by
  unfold State.takeDueClose; split <;> simp
@[simp] theorem State.takeDueClose_dmd (s : State) : (s.takeDueClose).dmd = s.dmd := by
  unfold State.takeDueClose; split <;> simp
@[simp] theorem State.takeDueClose_inputs (s : State) : (s.takeDueClose).inputs = s.inputs := by
  unfold State.takeDueClose; split <;> simp
@[simp] theorem State.takeDueClose_choices (s : State) : (s.takeDueClose).choices = s.choices := by
  unfold State.takeDueClose; split <;> simp
@[simp] theorem State.takeDueClose_pending (s : State) : (s.takeDueClose).pending = s.pending := by
  unfold State.takeDueClose; split <;> simp
@[simp] theorem State.takeDueClose_config (s : State) : (s.takeDueClose).port.config = s.port.config := by
  unfold State.takeDueClose; split <;> simp

@[simp] theorem State.openHigh_straps (s : State) : (s.openHigh).straps = s.straps := rfl
@[simp] theorem State.openHigh_unitNumber (s : State) : (s.openHigh).unitNumber = s.unitNumber := rfl
@[simp] theorem State.openHigh_exch (s : State) : (s.openHigh).exch = s.exch := rfl
@[simp] theorem State.openHigh_roster (s : State) : (s.openHigh).roster = s.roster := rfl
@[simp] theorem State.openHigh_ctl (s : State) : (s.openHigh).ctl = s.ctl := rfl
@[simp] theorem State.openHigh_gen (s : State) : (s.openHigh).gen = s.gen := rfl
@[simp] theorem State.openHigh_meas (s : State) : (s.openHigh).meas = s.meas := rfl
@[simp] theorem State.openHigh_dmd (s : State) : (s.openHigh).dmd = s.dmd := rfl
@[simp] theorem State.openHigh_port (s : State) : (s.openHigh).port = s.port := rfl
@[simp] theorem State.openHigh_inputs (s : State) : (s.openHigh).inputs = s.inputs := rfl
@[simp] theorem State.openHigh_choices (s : State) : (s.openHigh).choices = s.choices := rfl
@[simp] theorem State.openHigh_pending (s : State) : (s.openHigh).pending = s.pending := rfl

@[simp] theorem State.alignedRise_straps (s : State) : (s.alignedRise).straps = s.straps := by
  unfold State.alignedRise; dsimp only; (repeat' split) <;> simp
@[simp] theorem State.alignedRise_unitNumber (s : State) : (s.alignedRise).unitNumber = s.unitNumber := by
  unfold State.alignedRise; dsimp only; (repeat' split) <;> simp
@[simp] theorem State.alignedRise_dmd (s : State) : (s.alignedRise).dmd = s.dmd := by
  unfold State.alignedRise; dsimp only; (repeat' split) <;> simp
@[simp] theorem State.alignedRise_inputs (s : State) : (s.alignedRise).inputs = s.inputs := by
  unfold State.alignedRise; dsimp only; (repeat' split) <;> simp
@[simp] theorem State.alignedRise_choices (s : State) : (s.alignedRise).choices = s.choices := by
  unfold State.alignedRise; dsimp only; (repeat' split) <;> simp
@[simp] theorem State.alignedRise_pending (s : State) : (s.alignedRise).pending = s.pending := by
  unfold State.alignedRise; dsimp only; (repeat' split) <;> simp
@[simp] theorem State.alignedRise_config (s : State) : (s.alignedRise).port.config = s.port.config := by
  unfold State.alignedRise; dsimp only; (repeat' split) <;> simp

@[simp] theorem State.markError_straps (s : State) : (s.markError).straps = s.straps := by
  unfold State.markError; split <;> simp
@[simp] theorem State.markError_unitNumber (s : State) : (s.markError).unitNumber = s.unitNumber := by
  unfold State.markError; split <;> simp
@[simp] theorem State.markError_dmd (s : State) : (s.markError).dmd = s.dmd := by
  unfold State.markError; split <;> simp
@[simp] theorem State.markError_inputs (s : State) : (s.markError).inputs = s.inputs := by
  unfold State.markError; split <;> simp
@[simp] theorem State.markError_choices (s : State) : (s.markError).choices = s.choices := by
  unfold State.markError; split <;> simp
@[simp] theorem State.markError_pending (s : State) : (s.markError).pending = s.pending := by
  unfold State.markError; split <;> simp
@[simp] theorem State.markError_config (s : State) : (s.markError).port.config = s.port.config := by
  unfold State.markError; split <;> simp

@[simp] theorem State.classifyNormal_straps (s : State) : (s.classifyNormal).straps = s.straps := by
  unfold State.classifyNormal; split <;> simp
@[simp] theorem State.classifyNormal_unitNumber (s : State) : (s.classifyNormal).unitNumber = s.unitNumber := by
  unfold State.classifyNormal; split <;> simp
@[simp] theorem State.classifyNormal_dmd (s : State) : (s.classifyNormal).dmd = s.dmd := by
  unfold State.classifyNormal; split <;> simp
@[simp] theorem State.classifyNormal_inputs (s : State) : (s.classifyNormal).inputs = s.inputs := by
  unfold State.classifyNormal; split <;> simp
@[simp] theorem State.classifyNormal_choices (s : State) : (s.classifyNormal).choices = s.choices := by
  unfold State.classifyNormal; split <;> simp
@[simp] theorem State.classifyNormal_pending (s : State) : (s.classifyNormal).pending = s.pending := by
  unfold State.classifyNormal; split <;> simp
@[simp] theorem State.classifyNormal_config (s : State) : (s.classifyNormal).port.config = s.port.config := by
  unfold State.classifyNormal; split <;> simp

@[simp] theorem State.classifyMark_straps (s : State) : (s.classifyMark).straps = s.straps := by
  unfold State.classifyMark; (repeat' split) <;> simp
@[simp] theorem State.classifyMark_unitNumber (s : State) : (s.classifyMark).unitNumber = s.unitNumber := by
  unfold State.classifyMark; (repeat' split) <;> simp
@[simp] theorem State.classifyMark_dmd (s : State) : (s.classifyMark).dmd = s.dmd := by
  unfold State.classifyMark; (repeat' split) <;> simp
@[simp] theorem State.classifyMark_inputs (s : State) : (s.classifyMark).inputs = s.inputs := by
  unfold State.classifyMark; (repeat' split) <;> simp
@[simp] theorem State.classifyMark_choices (s : State) : (s.classifyMark).choices = s.choices := by
  unfold State.classifyMark; (repeat' split) <;> simp
@[simp] theorem State.classifyMark_pending (s : State) : (s.classifyMark).pending = s.pending := by
  unfold State.classifyMark; (repeat' split) <;> simp
@[simp] theorem State.classifyMark_config (s : State) : (s.classifyMark).port.config = s.port.config := by
  unfold State.classifyMark; (repeat' split) <;> simp

@[simp] theorem State.latchHigh_straps (s : State) : (s.latchHigh).straps = s.straps := by
  unfold State.latchHigh; split <;> simp
@[simp] theorem State.latchHigh_unitNumber (s : State) : (s.latchHigh).unitNumber = s.unitNumber := by
  unfold State.latchHigh; split <;> simp
@[simp] theorem State.latchHigh_exch (s : State) : (s.latchHigh).exch = s.exch := by
  unfold State.latchHigh; split <;> simp
@[simp] theorem State.latchHigh_roster (s : State) : (s.latchHigh).roster = s.roster := by
  unfold State.latchHigh; split <;> simp
@[simp] theorem State.latchHigh_ctl (s : State) : (s.latchHigh).ctl = s.ctl := by
  unfold State.latchHigh; split <;> simp
@[simp] theorem State.latchHigh_gen (s : State) : (s.latchHigh).gen = s.gen := by
  unfold State.latchHigh; split <;> simp
@[simp] theorem State.latchHigh_meas (s : State) : (s.latchHigh).meas = s.meas := by
  unfold State.latchHigh; split <;> simp
@[simp] theorem State.latchHigh_dmd (s : State) : (s.latchHigh).dmd = s.dmd := by
  unfold State.latchHigh; split <;> simp
@[simp] theorem State.latchHigh_port (s : State) : (s.latchHigh).port = s.port := by
  unfold State.latchHigh; split <;> simp
@[simp] theorem State.latchHigh_inputs (s : State) : (s.latchHigh).inputs = s.inputs := by
  unfold State.latchHigh; split <;> simp
@[simp] theorem State.latchHigh_choices (s : State) : (s.latchHigh).choices = s.choices := by
  unfold State.latchHigh; split <;> simp
@[simp] theorem State.latchHigh_pending (s : State) : (s.latchHigh).pending = s.pending := by
  unfold State.latchHigh; split <;> simp

@[simp] theorem State.fall_straps (s : State) : (s.fall).straps = s.straps := by
  unfold State.fall; dsimp only; (repeat' split) <;> simp
@[simp] theorem State.fall_unitNumber (s : State) : (s.fall).unitNumber = s.unitNumber := by
  unfold State.fall; dsimp only; (repeat' split) <;> simp
@[simp] theorem State.fall_dmd (s : State) : (s.fall).dmd = s.dmd := by
  unfold State.fall; dsimp only; (repeat' split) <;> simp
@[simp] theorem State.fall_inputs (s : State) : (s.fall).inputs = s.inputs := by
  unfold State.fall; dsimp only; (repeat' split) <;> simp
@[simp] theorem State.fall_choices (s : State) : (s.fall).choices = s.choices := by
  unfold State.fall; dsimp only; (repeat' split) <;> simp
@[simp] theorem State.fall_pending (s : State) : (s.fall).pending = s.pending := by
  unfold State.fall; dsimp only; (repeat' split) <;> simp
@[simp] theorem State.fall_config (s : State) : (s.fall).port.config = s.port.config := by
  unfold State.fall; dsimp only; (repeat' split) <;> simp

@[simp] theorem State.followFall_straps (s : State) : (s.followFall).straps = s.straps := by
  unfold State.followFall; split <;> simp
@[simp] theorem State.followFall_unitNumber (s : State) : (s.followFall).unitNumber = s.unitNumber := by
  unfold State.followFall; split <;> simp
@[simp] theorem State.followFall_dmd (s : State) : (s.followFall).dmd = s.dmd := by
  unfold State.followFall; split <;> simp
@[simp] theorem State.followFall_inputs (s : State) : (s.followFall).inputs = s.inputs := by
  unfold State.followFall; split <;> simp
@[simp] theorem State.followFall_choices (s : State) : (s.followFall).choices = s.choices := by
  unfold State.followFall; split <;> simp
@[simp] theorem State.followFall_pending (s : State) : (s.followFall).pending = s.pending := by
  unfold State.followFall; split <;> simp
@[simp] theorem State.followFall_config (s : State) : (s.followFall).port.config = s.port.config := by
  unfold State.followFall; split <;> simp

@[simp] theorem State.releaseFrm_straps (s : State) : (s.releaseFrm).straps = s.straps := rfl
@[simp] theorem State.releaseFrm_unitNumber (s : State) : (s.releaseFrm).unitNumber = s.unitNumber := rfl
@[simp] theorem State.releaseFrm_exch (s : State) : (s.releaseFrm).exch = s.exch := rfl
@[simp] theorem State.releaseFrm_roster (s : State) : (s.releaseFrm).roster = s.roster := rfl
@[simp] theorem State.releaseFrm_ctl (s : State) : (s.releaseFrm).ctl = s.ctl := rfl
@[simp] theorem State.releaseFrm_gen (s : State) : (s.releaseFrm).gen = s.gen := rfl
@[simp] theorem State.releaseFrm_meas (s : State) : (s.releaseFrm).meas = s.meas := rfl
@[simp] theorem State.releaseFrm_dmd (s : State) : (s.releaseFrm).dmd = s.dmd := rfl
@[simp] theorem State.releaseFrm_port (s : State) : (s.releaseFrm).port = s.port := rfl
@[simp] theorem State.releaseFrm_inputs (s : State) : (s.releaseFrm).inputs = s.inputs := rfl
@[simp] theorem State.releaseFrm_choices (s : State) : (s.releaseFrm).choices = s.choices := rfl
@[simp] theorem State.releaseFrm_pending (s : State) : (s.releaseFrm).pending = s.pending := rfl

@[simp] theorem State.startStuck_straps (s : State) : (s.startStuck).straps = s.straps := by
  unfold State.startStuck; split <;> simp
@[simp] theorem State.startStuck_unitNumber (s : State) : (s.startStuck).unitNumber = s.unitNumber := by
  unfold State.startStuck; split <;> simp
@[simp] theorem State.startStuck_exch (s : State) : (s.startStuck).exch = s.exch := by
  unfold State.startStuck; split <;> simp
@[simp] theorem State.startStuck_roster (s : State) : (s.startStuck).roster = s.roster := by
  unfold State.startStuck; split <;> simp
@[simp] theorem State.startStuck_ctl (s : State) : (s.startStuck).ctl = s.ctl := by
  unfold State.startStuck; split <;> simp
@[simp] theorem State.startStuck_gen (s : State) : (s.startStuck).gen = s.gen := by
  unfold State.startStuck; split <;> simp
@[simp] theorem State.startStuck_meas (s : State) : (s.startStuck).meas = s.meas := by
  unfold State.startStuck; split <;> simp
@[simp] theorem State.startStuck_dmd (s : State) : (s.startStuck).dmd = s.dmd := by
  unfold State.startStuck; split <;> simp
@[simp] theorem State.startStuck_port (s : State) : (s.startStuck).port = s.port := by
  unfold State.startStuck; split <;> simp
@[simp] theorem State.startStuck_inputs (s : State) : (s.startStuck).inputs = s.inputs := by
  unfold State.startStuck; split <;> simp
@[simp] theorem State.startStuck_choices (s : State) : (s.startStuck).choices = s.choices := by
  unfold State.startStuck; split <;> simp
@[simp] theorem State.startStuck_pending (s : State) : (s.startStuck).pending = s.pending := by
  unfold State.startStuck; split <;> simp

@[simp] theorem State.announceEnd_straps (s : State) : (s.announceEnd).straps = s.straps := by
  unfold State.announceEnd; split <;> simp
@[simp] theorem State.announceEnd_unitNumber (s : State) : (s.announceEnd).unitNumber = s.unitNumber := by
  unfold State.announceEnd; split <;> simp
@[simp] theorem State.announceEnd_roster (s : State) : (s.announceEnd).roster = s.roster := by
  unfold State.announceEnd; split <;> simp
@[simp] theorem State.announceEnd_gen (s : State) : (s.announceEnd).gen = s.gen := by
  unfold State.announceEnd; split <;> simp
@[simp] theorem State.announceEnd_dmd (s : State) : (s.announceEnd).dmd = s.dmd := by
  unfold State.announceEnd; split <;> simp
@[simp] theorem State.announceEnd_port (s : State) : (s.announceEnd).port = s.port := by
  unfold State.announceEnd; split <;> simp
@[simp] theorem State.announceEnd_inputs (s : State) : (s.announceEnd).inputs = s.inputs := by
  unfold State.announceEnd; split <;> simp
@[simp] theorem State.announceEnd_choices (s : State) : (s.announceEnd).choices = s.choices := by
  unfold State.announceEnd; split <;> simp
@[simp] theorem State.announceEnd_pending (s : State) : (s.announceEnd).pending = s.pending := by
  unfold State.announceEnd; split <;> simp

@[simp] theorem State.stuckInFault_straps (s : State) : (s.stuckInFault).straps = s.straps := rfl
@[simp] theorem State.stuckInFault_unitNumber (s : State) : (s.stuckInFault).unitNumber = s.unitNumber := rfl
@[simp] theorem State.stuckInFault_roster (s : State) : (s.stuckInFault).roster = s.roster := rfl
@[simp] theorem State.stuckInFault_gen (s : State) : (s.stuckInFault).gen = s.gen := rfl
@[simp] theorem State.stuckInFault_dmd (s : State) : (s.stuckInFault).dmd = s.dmd := rfl
@[simp] theorem State.stuckInFault_port (s : State) : (s.stuckInFault).port = s.port := rfl
@[simp] theorem State.stuckInFault_inputs (s : State) : (s.stuckInFault).inputs = s.inputs := rfl
@[simp] theorem State.stuckInFault_choices (s : State) : (s.stuckInFault).choices = s.choices := rfl
@[simp] theorem State.stuckInFault_pending (s : State) : (s.stuckInFault).pending = s.pending := rfl

/-! ## The events, the port and the clock -/

@[simp] theorem State.lastSample_straps (s : State) (x : Bool) : (s.lastSample x).straps = s.straps := rfl
@[simp] theorem State.lastSample_unitNumber (s : State) (x : Bool) : (s.lastSample x).unitNumber = s.unitNumber := rfl
@[simp] theorem State.lastSample_frame (s : State) (x : Bool) : (s.lastSample x).frame = s.frame := rfl
@[simp] theorem State.lastSample_roster (s : State) (x : Bool) : (s.lastSample x).roster = s.roster := rfl
@[simp] theorem State.lastSample_ctl (s : State) (x : Bool) : (s.lastSample x).ctl = s.ctl := rfl
@[simp] theorem State.lastSample_gen (s : State) (x : Bool) : (s.lastSample x).gen = s.gen := rfl
@[simp] theorem State.lastSample_meas (s : State) (x : Bool) : (s.lastSample x).meas = s.meas := rfl
@[simp] theorem State.lastSample_dmd (s : State) (x : Bool) : (s.lastSample x).dmd = s.dmd := rfl
@[simp] theorem State.lastSample_port (s : State) (x : Bool) : (s.lastSample x).port = s.port := rfl
@[simp] theorem State.lastSample_inputs (s : State) (x : Bool) : (s.lastSample x).inputs = s.inputs := rfl
@[simp] theorem State.lastSample_choices (s : State) (x : Bool) : (s.lastSample x).choices = s.choices := rfl
@[simp] theorem State.lastSample_pending (s : State) (x : Bool) : (s.lastSample x).pending = s.pending := rfl

@[simp] theorem State.swapAtFrameZero_straps (s : State) : (s.swapAtFrameZero).straps = s.straps := by
  unfold State.swapAtFrameZero; split <;> simp
@[simp] theorem State.swapAtFrameZero_unitNumber (s : State) : (s.swapAtFrameZero).unitNumber = s.unitNumber := by
  unfold State.swapAtFrameZero; split <;> simp
@[simp] theorem State.swapAtFrameZero_frame (s : State) : (s.swapAtFrameZero).frame = s.frame := by
  unfold State.swapAtFrameZero; split <;> simp
@[simp] theorem State.swapAtFrameZero_exch (s : State) : (s.swapAtFrameZero).exch = s.exch := by
  unfold State.swapAtFrameZero; split <;> simp
@[simp] theorem State.swapAtFrameZero_roster (s : State) : (s.swapAtFrameZero).roster = s.roster := by
  unfold State.swapAtFrameZero; split <;> simp
@[simp] theorem State.swapAtFrameZero_ctl (s : State) : (s.swapAtFrameZero).ctl = s.ctl := by
  unfold State.swapAtFrameZero; split <;> simp
@[simp] theorem State.swapAtFrameZero_dmd (s : State) : (s.swapAtFrameZero).dmd = s.dmd := by
  unfold State.swapAtFrameZero; split <;> simp
@[simp] theorem State.swapAtFrameZero_port (s : State) : (s.swapAtFrameZero).port = s.port := by
  unfold State.swapAtFrameZero; split <;> simp
@[simp] theorem State.swapAtFrameZero_inputs (s : State) : (s.swapAtFrameZero).inputs = s.inputs := by
  unfold State.swapAtFrameZero; split <;> simp
@[simp] theorem State.swapAtFrameZero_choices (s : State) : (s.swapAtFrameZero).choices = s.choices := by
  unfold State.swapAtFrameZero; split <;> simp
@[simp] theorem State.swapAtFrameZero_pending (s : State) : (s.swapAtFrameZero).pending = s.pending := by
  unfold State.swapAtFrameZero; split <;> simp

@[simp] theorem State.countTruncated_straps (s : State) : (s.countTruncated).straps = s.straps := by
  unfold State.countTruncated; split <;> simp
@[simp] theorem State.countTruncated_unitNumber (s : State) : (s.countTruncated).unitNumber = s.unitNumber := by
  unfold State.countTruncated; split <;> simp
@[simp] theorem State.countTruncated_exch (s : State) : (s.countTruncated).exch = s.exch := by
  unfold State.countTruncated; split <;> simp
@[simp] theorem State.countTruncated_roster (s : State) : (s.countTruncated).roster = s.roster := by
  unfold State.countTruncated; split <;> simp
@[simp] theorem State.countTruncated_dmd (s : State) : (s.countTruncated).dmd = s.dmd := by
  unfold State.countTruncated; split <;> simp
@[simp] theorem State.countTruncated_inputs (s : State) : (s.countTruncated).inputs = s.inputs := by
  unfold State.countTruncated; split <;> simp
@[simp] theorem State.countTruncated_choices (s : State) : (s.countTruncated).choices = s.choices := by
  unfold State.countTruncated; split <;> simp
@[simp] theorem State.countTruncated_pending (s : State) : (s.countTruncated).pending = s.pending := by
  unfold State.countTruncated; split <;> simp
@[simp] theorem State.countTruncated_config (s : State) : (s.countTruncated).port.config = s.port.config := by
  unfold State.countTruncated; split <;> simp

@[simp] theorem State.cutByOci_straps (s : State) : (s.cutByOci).straps = s.straps := by
  unfold State.cutByOci; dsimp only; split <;> simp
@[simp] theorem State.cutByOci_unitNumber (s : State) : (s.cutByOci).unitNumber = s.unitNumber := by
  unfold State.cutByOci; dsimp only; split <;> simp
@[simp] theorem State.cutByOci_exch (s : State) : (s.cutByOci).exch = s.exch := by
  unfold State.cutByOci; dsimp only; split <;> simp
@[simp] theorem State.cutByOci_roster (s : State) : (s.cutByOci).roster = s.roster := by
  unfold State.cutByOci; dsimp only; split <;> simp
@[simp] theorem State.cutByOci_dmd (s : State) : (s.cutByOci).dmd = s.dmd := by
  unfold State.cutByOci; dsimp only; split <;> simp
@[simp] theorem State.cutByOci_inputs (s : State) : (s.cutByOci).inputs = s.inputs := by
  unfold State.cutByOci; dsimp only; split <;> simp
@[simp] theorem State.cutByOci_choices (s : State) : (s.cutByOci).choices = s.choices := by
  unfold State.cutByOci; dsimp only; split <;> simp
@[simp] theorem State.cutByOci_pending (s : State) : (s.cutByOci).pending = s.pending := by
  unfold State.cutByOci; dsimp only; split <;> simp
@[simp] theorem State.cutByOci_config (s : State) : (s.cutByOci).port.config = s.port.config := by
  unfold State.cutByOci; dsimp only; split <;> simp

@[simp] theorem State.takeOwedCut_straps (s : State) : (s.takeOwedCut).straps = s.straps := by
  simp [State.takeOwedCut]
@[simp] theorem State.takeOwedCut_unitNumber (s : State) : (s.takeOwedCut).unitNumber = s.unitNumber := by
  simp [State.takeOwedCut]
@[simp] theorem State.takeOwedCut_exch (s : State) : (s.takeOwedCut).exch = s.exch := by
  simp [State.takeOwedCut]
@[simp] theorem State.takeOwedCut_roster (s : State) : (s.takeOwedCut).roster = s.roster := by
  simp [State.takeOwedCut]
@[simp] theorem State.takeOwedCut_dmd (s : State) : (s.takeOwedCut).dmd = s.dmd := by
  simp [State.takeOwedCut]
@[simp] theorem State.takeOwedCut_inputs (s : State) : (s.takeOwedCut).inputs = s.inputs := by
  simp [State.takeOwedCut]
@[simp] theorem State.takeOwedCut_choices (s : State) : (s.takeOwedCut).choices = s.choices := by
  simp [State.takeOwedCut]
@[simp] theorem State.takeOwedCut_pending (s : State) : (s.takeOwedCut).pending = s.pending := by
  simp [State.takeOwedCut]
@[simp] theorem State.takeOwedCut_config (s : State) : (s.takeOwedCut).port.config = s.port.config := by
  simp [State.takeOwedCut]

@[simp] theorem State.takeOwedPoint_straps (s : State) : (s.takeOwedPoint).straps = s.straps := by
  unfold State.takeOwedPoint; dsimp only; split <;> simp
@[simp] theorem State.takeOwedPoint_unitNumber (s : State) : (s.takeOwedPoint).unitNumber = s.unitNumber := by
  unfold State.takeOwedPoint; dsimp only; split <;> simp
@[simp] theorem State.takeOwedPoint_exch (s : State) : (s.takeOwedPoint).exch = s.exch := by
  unfold State.takeOwedPoint; dsimp only; split <;> simp
@[simp] theorem State.takeOwedPoint_roster (s : State) : (s.takeOwedPoint).roster = s.roster := by
  unfold State.takeOwedPoint; dsimp only; split <;> simp
@[simp] theorem State.takeOwedPoint_dmd (s : State) : (s.takeOwedPoint).dmd = s.dmd := by
  unfold State.takeOwedPoint; dsimp only; split <;> simp
@[simp] theorem State.takeOwedPoint_inputs (s : State) : (s.takeOwedPoint).inputs = s.inputs := by
  unfold State.takeOwedPoint; dsimp only; split <;> simp
@[simp] theorem State.takeOwedPoint_choices (s : State) : (s.takeOwedPoint).choices = s.choices := by
  unfold State.takeOwedPoint; dsimp only; split <;> simp
@[simp] theorem State.takeOwedPoint_pending (s : State) : (s.takeOwedPoint).pending = s.pending := by
  unfold State.takeOwedPoint; dsimp only; split <;> simp
@[simp] theorem State.takeOwedPoint_config (s : State) : (s.takeOwedPoint).port.config = s.port.config := by
  unfold State.takeOwedPoint; dsimp only; split <;> simp

@[simp] theorem State.takePulse_straps (s : State) : (s.takePulse).straps = s.straps := by
  unfold State.takePulse; (repeat' split) <;> simp
@[simp] theorem State.takePulse_unitNumber (s : State) : (s.takePulse).unitNumber = s.unitNumber := by
  unfold State.takePulse; (repeat' split) <;> simp
@[simp] theorem State.takePulse_exch (s : State) : (s.takePulse).exch = s.exch := by
  unfold State.takePulse; (repeat' split) <;> simp
@[simp] theorem State.takePulse_roster (s : State) : (s.takePulse).roster = s.roster := by
  unfold State.takePulse; (repeat' split) <;> simp
@[simp] theorem State.takePulse_dmd (s : State) : (s.takePulse).dmd = s.dmd := by
  unfold State.takePulse; (repeat' split) <;> simp
@[simp] theorem State.takePulse_inputs (s : State) : (s.takePulse).inputs = s.inputs := by
  unfold State.takePulse; (repeat' split) <;> simp
@[simp] theorem State.takePulse_choices (s : State) : (s.takePulse).choices = s.choices := by
  unfold State.takePulse; (repeat' split) <;> simp
@[simp] theorem State.takePulse_pending (s : State) : (s.takePulse).pending = s.pending := by
  unfold State.takePulse; (repeat' split) <;> simp
@[simp] theorem State.takePulse_config (s : State) : (s.takePulse).port.config = s.port.config := by
  unfold State.takePulse; (repeat' split) <;> simp

@[simp] theorem State.takeOnPoint_straps (s : State) : (s.takeOnPoint).straps = s.straps := by
  simp [State.takeOnPoint]
@[simp] theorem State.takeOnPoint_unitNumber (s : State) : (s.takeOnPoint).unitNumber = s.unitNumber := by
  simp [State.takeOnPoint]
@[simp] theorem State.takeOnPoint_exch (s : State) : (s.takeOnPoint).exch = s.exch := by
  simp [State.takeOnPoint]
@[simp] theorem State.takeOnPoint_roster (s : State) : (s.takeOnPoint).roster = s.roster := by
  simp [State.takeOnPoint]
@[simp] theorem State.takeOnPoint_dmd (s : State) : (s.takeOnPoint).dmd = s.dmd := by
  simp [State.takeOnPoint]
@[simp] theorem State.takeOnPoint_inputs (s : State) : (s.takeOnPoint).inputs = s.inputs := by
  simp [State.takeOnPoint]
@[simp] theorem State.takeOnPoint_choices (s : State) : (s.takeOnPoint).choices = s.choices := by
  simp [State.takeOnPoint]
@[simp] theorem State.takeOnPoint_pending (s : State) : (s.takeOnPoint).pending = s.pending := by
  simp [State.takeOnPoint]
@[simp] theorem State.takeOnPoint_config (s : State) : (s.takeOnPoint).port.config = s.port.config := by
  simp [State.takeOnPoint]

@[simp] theorem State.takeCurrent_straps (s : State) (b : Bool) (code : Reading) : (s.takeCurrent b code).straps = s.straps := by
  unfold State.takeCurrent; split <;> simp
@[simp] theorem State.takeCurrent_unitNumber (s : State) (b : Bool) (code : Reading) : (s.takeCurrent b code).unitNumber = s.unitNumber := by
  unfold State.takeCurrent; split <;> simp
@[simp] theorem State.takeCurrent_frame (s : State) (b : Bool) (code : Reading) : (s.takeCurrent b code).frame = s.frame := by
  unfold State.takeCurrent; split <;> simp
@[simp] theorem State.takeCurrent_exch (s : State) (b : Bool) (code : Reading) : (s.takeCurrent b code).exch = s.exch := by
  unfold State.takeCurrent; split <;> simp
@[simp] theorem State.takeCurrent_roster (s : State) (b : Bool) (code : Reading) : (s.takeCurrent b code).roster = s.roster := by
  unfold State.takeCurrent; split <;> simp
@[simp] theorem State.takeCurrent_ctl (s : State) (b : Bool) (code : Reading) : (s.takeCurrent b code).ctl = s.ctl := by
  unfold State.takeCurrent; split <;> simp
@[simp] theorem State.takeCurrent_gen (s : State) (b : Bool) (code : Reading) : (s.takeCurrent b code).gen = s.gen := by
  unfold State.takeCurrent; split <;> simp
@[simp] theorem State.takeCurrent_dmd (s : State) (b : Bool) (code : Reading) : (s.takeCurrent b code).dmd = s.dmd := by
  unfold State.takeCurrent; split <;> simp
@[simp] theorem State.takeCurrent_port (s : State) (b : Bool) (code : Reading) : (s.takeCurrent b code).port = s.port := by
  unfold State.takeCurrent; split <;> simp
@[simp] theorem State.takeCurrent_inputs (s : State) (b : Bool) (code : Reading) : (s.takeCurrent b code).inputs = s.inputs := by
  unfold State.takeCurrent; split <;> simp
@[simp] theorem State.takeCurrent_choices (s : State) (b : Bool) (code : Reading) : (s.takeCurrent b code).choices = s.choices := by
  unfold State.takeCurrent; split <;> simp
@[simp] theorem State.takeCurrent_pending (s : State) (b : Bool) (code : Reading) : (s.takeCurrent b code).pending = s.pending := by
  unfold State.takeCurrent; split <;> simp

@[simp] theorem State.takeTemperature_straps (s : State) (code : Reading) : (s.takeTemperature code).straps = s.straps := by
  unfold State.takeTemperature; (repeat' split) <;> simp
@[simp] theorem State.takeTemperature_unitNumber (s : State) (code : Reading) : (s.takeTemperature code).unitNumber = s.unitNumber := by
  unfold State.takeTemperature; (repeat' split) <;> simp
@[simp] theorem State.takeTemperature_dmd (s : State) (code : Reading) : (s.takeTemperature code).dmd = s.dmd := by
  unfold State.takeTemperature; (repeat' split) <;> simp
@[simp] theorem State.takeTemperature_inputs (s : State) (code : Reading) : (s.takeTemperature code).inputs = s.inputs := by
  unfold State.takeTemperature; (repeat' split) <;> simp
@[simp] theorem State.takeTemperature_choices (s : State) (code : Reading) : (s.takeTemperature code).choices = s.choices := by
  unfold State.takeTemperature; (repeat' split) <;> simp
@[simp] theorem State.takeTemperature_pending (s : State) (code : Reading) : (s.takeTemperature code).pending = s.pending := by
  unfold State.takeTemperature; (repeat' split) <;> simp
@[simp] theorem State.takeTemperature_config (s : State) (code : Reading) : (s.takeTemperature code).port.config = s.port.config := by
  unfold State.takeTemperature; (repeat' split) <;> simp

@[simp] theorem State.takeVoltage_straps (s : State) (code : Reading) : (s.takeVoltage code).straps = s.straps := by
  unfold State.takeVoltage; (repeat' split) <;> simp
@[simp] theorem State.takeVoltage_unitNumber (s : State) (code : Reading) : (s.takeVoltage code).unitNumber = s.unitNumber := by
  unfold State.takeVoltage; (repeat' split) <;> simp
@[simp] theorem State.takeVoltage_frame (s : State) (code : Reading) : (s.takeVoltage code).frame = s.frame := by
  unfold State.takeVoltage; (repeat' split) <;> simp
@[simp] theorem State.takeVoltage_exch (s : State) (code : Reading) : (s.takeVoltage code).exch = s.exch := by
  unfold State.takeVoltage; (repeat' split) <;> simp
@[simp] theorem State.takeVoltage_roster (s : State) (code : Reading) : (s.takeVoltage code).roster = s.roster := by
  unfold State.takeVoltage; (repeat' split) <;> simp
@[simp] theorem State.takeVoltage_dmd (s : State) (code : Reading) : (s.takeVoltage code).dmd = s.dmd := by
  unfold State.takeVoltage; (repeat' split) <;> simp
@[simp] theorem State.takeVoltage_inputs (s : State) (code : Reading) : (s.takeVoltage code).inputs = s.inputs := by
  unfold State.takeVoltage; (repeat' split) <;> simp
@[simp] theorem State.takeVoltage_choices (s : State) (code : Reading) : (s.takeVoltage code).choices = s.choices := by
  unfold State.takeVoltage; (repeat' split) <;> simp
@[simp] theorem State.takeVoltage_pending (s : State) (code : Reading) : (s.takeVoltage code).pending = s.pending := by
  unfold State.takeVoltage; (repeat' split) <;> simp
@[simp] theorem State.takeVoltage_config (s : State) (code : Reading) : (s.takeVoltage code).port.config = s.port.config := by
  unfold State.takeVoltage; (repeat' split) <;> simp

@[simp] theorem State.takeResult_straps (s : State) (c : Conversion) (code : Reading) : (s.takeResult c code).straps = s.straps := by
  unfold State.takeResult; split <;> simp
@[simp] theorem State.takeResult_unitNumber (s : State) (c : Conversion) (code : Reading) : (s.takeResult c code).unitNumber = s.unitNumber := by
  unfold State.takeResult; split <;> simp
@[simp] theorem State.takeResult_dmd (s : State) (c : Conversion) (code : Reading) : (s.takeResult c code).dmd = s.dmd := by
  unfold State.takeResult; split <;> simp
@[simp] theorem State.takeResult_inputs (s : State) (c : Conversion) (code : Reading) : (s.takeResult c code).inputs = s.inputs := by
  unfold State.takeResult; split <;> simp
@[simp] theorem State.takeResult_choices (s : State) (c : Conversion) (code : Reading) : (s.takeResult c code).choices = s.choices := by
  unfold State.takeResult; split <;> simp
@[simp] theorem State.takeResult_pending (s : State) (c : Conversion) (code : Reading) : (s.takeResult c code).pending = s.pending := by
  unfold State.takeResult; split <;> simp
@[simp] theorem State.takeResult_config (s : State) (c : Conversion) (code : Reading) : (s.takeResult c code).port.config = s.port.config := by
  unfold State.takeResult; split <;> simp

@[simp] theorem State.startConversion_straps (s : State) : (s.startConversion).straps = s.straps := rfl
@[simp] theorem State.startConversion_unitNumber (s : State) : (s.startConversion).unitNumber = s.unitNumber := rfl
@[simp] theorem State.startConversion_frame (s : State) : (s.startConversion).frame = s.frame := rfl
@[simp] theorem State.startConversion_exch (s : State) : (s.startConversion).exch = s.exch := rfl
@[simp] theorem State.startConversion_roster (s : State) : (s.startConversion).roster = s.roster := rfl
@[simp] theorem State.startConversion_ctl (s : State) : (s.startConversion).ctl = s.ctl := rfl
@[simp] theorem State.startConversion_gen (s : State) : (s.startConversion).gen = s.gen := rfl
@[simp] theorem State.startConversion_dmd (s : State) : (s.startConversion).dmd = s.dmd := rfl
@[simp] theorem State.startConversion_port (s : State) : (s.startConversion).port = s.port := rfl
@[simp] theorem State.startConversion_inputs (s : State) : (s.startConversion).inputs = s.inputs := rfl
@[simp] theorem State.startConversion_choices (s : State) : (s.startConversion).choices = s.choices := rfl
@[simp] theorem State.startConversion_pending (s : State) : (s.startConversion).pending = s.pending := rfl

@[simp] theorem State.passValid_straps (s : State) : (s.passValid).straps = s.straps := by
  unfold State.passValid; split <;> simp
@[simp] theorem State.passValid_unitNumber (s : State) : (s.passValid).unitNumber = s.unitNumber := by
  unfold State.passValid; split <;> simp
@[simp] theorem State.passValid_frame (s : State) : (s.passValid).frame = s.frame := by
  unfold State.passValid; split <;> simp
@[simp] theorem State.passValid_exch (s : State) : (s.passValid).exch = s.exch := by
  unfold State.passValid; split <;> simp
@[simp] theorem State.passValid_roster (s : State) : (s.passValid).roster = s.roster := by
  unfold State.passValid; split <;> simp
@[simp] theorem State.passValid_gen (s : State) : (s.passValid).gen = s.gen := by
  unfold State.passValid; split <;> simp
@[simp] theorem State.passValid_meas (s : State) : (s.passValid).meas = s.meas := by
  unfold State.passValid; split <;> simp
@[simp] theorem State.passValid_port (s : State) : (s.passValid).port = s.port := by
  unfold State.passValid; split <;> simp
@[simp] theorem State.passValid_inputs (s : State) : (s.passValid).inputs = s.inputs := by
  unfold State.passValid; split <;> simp
@[simp] theorem State.passValid_choices (s : State) : (s.passValid).choices = s.choices := by
  unfold State.passValid; split <;> simp
@[simp] theorem State.passValid_pending (s : State) : (s.passValid).pending = s.pending := by
  unfold State.passValid; split <;> simp

@[simp] theorem State.passLost_straps (s : State) : (s.passLost).straps = s.straps := by
  unfold State.passLost; split <;> simp
@[simp] theorem State.passLost_unitNumber (s : State) : (s.passLost).unitNumber = s.unitNumber := by
  unfold State.passLost; split <;> simp
@[simp] theorem State.passLost_frame (s : State) : (s.passLost).frame = s.frame := by
  unfold State.passLost; split <;> simp
@[simp] theorem State.passLost_exch (s : State) : (s.passLost).exch = s.exch := by
  unfold State.passLost; split <;> simp
@[simp] theorem State.passLost_roster (s : State) : (s.passLost).roster = s.roster := by
  unfold State.passLost; split <;> simp
@[simp] theorem State.passLost_inputs (s : State) : (s.passLost).inputs = s.inputs := by
  unfold State.passLost; split <;> simp
@[simp] theorem State.passLost_choices (s : State) : (s.passLost).choices = s.choices := by
  unfold State.passLost; split <;> simp
@[simp] theorem State.passLost_pending (s : State) : (s.passLost).pending = s.pending := by
  unfold State.passLost; split <;> simp
@[simp] theorem State.passLost_config (s : State) : (s.passLost).port.config = s.port.config := by
  unfold State.passLost; split <;> simp

@[simp] theorem State.goodPeriod_straps (s : State) (r : Reading) : (s.goodPeriod r).straps = s.straps := by simp [State.goodPeriod]
@[simp] theorem State.goodPeriod_unitNumber (s : State) (r : Reading) : (s.goodPeriod r).unitNumber = s.unitNumber := by simp [State.goodPeriod]
@[simp] theorem State.goodPeriod_frame (s : State) (r : Reading) : (s.goodPeriod r).frame = s.frame := by simp [State.goodPeriod]
@[simp] theorem State.goodPeriod_exch (s : State) (r : Reading) : (s.goodPeriod r).exch = s.exch := by simp [State.goodPeriod]
@[simp] theorem State.goodPeriod_roster (s : State) (r : Reading) : (s.goodPeriod r).roster = s.roster := by simp [State.goodPeriod]
@[simp] theorem State.goodPeriod_gen (s : State) (r : Reading) : (s.goodPeriod r).gen = s.gen := by simp [State.goodPeriod]
@[simp] theorem State.goodPeriod_meas (s : State) (r : Reading) : (s.goodPeriod r).meas = s.meas := by simp [State.goodPeriod]
@[simp] theorem State.goodPeriod_port (s : State) (r : Reading) : (s.goodPeriod r).port = s.port := by simp [State.goodPeriod]
@[simp] theorem State.goodPeriod_inputs (s : State) (r : Reading) : (s.goodPeriod r).inputs = s.inputs := by simp [State.goodPeriod]
@[simp] theorem State.goodPeriod_choices (s : State) (r : Reading) : (s.goodPeriod r).choices = s.choices := by simp [State.goodPeriod]
@[simp] theorem State.goodPeriod_pending (s : State) (r : Reading) : (s.goodPeriod r).pending = s.pending := by simp [State.goodPeriod]

@[simp] theorem State.badPeriod_straps (s : State) : (s.badPeriod).straps = s.straps := by simp [State.badPeriod]
@[simp] theorem State.badPeriod_unitNumber (s : State) : (s.badPeriod).unitNumber = s.unitNumber := by simp [State.badPeriod]
@[simp] theorem State.badPeriod_frame (s : State) : (s.badPeriod).frame = s.frame := by simp [State.badPeriod]
@[simp] theorem State.badPeriod_exch (s : State) : (s.badPeriod).exch = s.exch := by simp [State.badPeriod]
@[simp] theorem State.badPeriod_roster (s : State) : (s.badPeriod).roster = s.roster := by simp [State.badPeriod]
@[simp] theorem State.badPeriod_inputs (s : State) : (s.badPeriod).inputs = s.inputs := by simp [State.badPeriod]
@[simp] theorem State.badPeriod_choices (s : State) : (s.badPeriod).choices = s.choices := by simp [State.badPeriod]
@[simp] theorem State.badPeriod_pending (s : State) : (s.badPeriod).pending = s.pending := by simp [State.badPeriod]
@[simp] theorem State.badPeriod_config (s : State) : (s.badPeriod).port.config = s.port.config := by simp [State.badPeriod]

@[simp] theorem State.judgePeriod_straps (s : State) (n : Nat) : (s.judgePeriod n).straps = s.straps := by
  unfold State.judgePeriod; split <;> simp
@[simp] theorem State.judgePeriod_unitNumber (s : State) (n : Nat) : (s.judgePeriod n).unitNumber = s.unitNumber := by
  unfold State.judgePeriod; split <;> simp
@[simp] theorem State.judgePeriod_frame (s : State) (n : Nat) : (s.judgePeriod n).frame = s.frame := by
  unfold State.judgePeriod; split <;> simp
@[simp] theorem State.judgePeriod_exch (s : State) (n : Nat) : (s.judgePeriod n).exch = s.exch := by
  unfold State.judgePeriod; split <;> simp
@[simp] theorem State.judgePeriod_roster (s : State) (n : Nat) : (s.judgePeriod n).roster = s.roster := by
  unfold State.judgePeriod; split <;> simp
@[simp] theorem State.judgePeriod_inputs (s : State) (n : Nat) : (s.judgePeriod n).inputs = s.inputs := by
  unfold State.judgePeriod; split <;> simp
@[simp] theorem State.judgePeriod_choices (s : State) (n : Nat) : (s.judgePeriod n).choices = s.choices := by
  unfold State.judgePeriod; split <;> simp
@[simp] theorem State.judgePeriod_pending (s : State) (n : Nat) : (s.judgePeriod n).pending = s.pending := by
  unfold State.judgePeriod; split <;> simp
@[simp] theorem State.judgePeriod_config (s : State) (n : Nat) : (s.judgePeriod n).port.config = s.port.config := by
  unfold State.judgePeriod; split <;> simp

@[simp] theorem State.beginTransaction_straps (s : State) (cmd : PortCommand) (r : ResultCode) (out : List Byte) : (s.beginTransaction cmd r out).straps = s.straps := rfl
@[simp] theorem State.beginTransaction_unitNumber (s : State) (cmd : PortCommand) (r : ResultCode) (out : List Byte) : (s.beginTransaction cmd r out).unitNumber = s.unitNumber := rfl
@[simp] theorem State.beginTransaction_frame (s : State) (cmd : PortCommand) (r : ResultCode) (out : List Byte) : (s.beginTransaction cmd r out).frame = s.frame := rfl
@[simp] theorem State.beginTransaction_exch (s : State) (cmd : PortCommand) (r : ResultCode) (out : List Byte) : (s.beginTransaction cmd r out).exch = s.exch := rfl
@[simp] theorem State.beginTransaction_roster (s : State) (cmd : PortCommand) (r : ResultCode) (out : List Byte) : (s.beginTransaction cmd r out).roster = s.roster := rfl
@[simp] theorem State.beginTransaction_ctl (s : State) (cmd : PortCommand) (r : ResultCode) (out : List Byte) : (s.beginTransaction cmd r out).ctl = s.ctl := rfl
@[simp] theorem State.beginTransaction_gen (s : State) (cmd : PortCommand) (r : ResultCode) (out : List Byte) : (s.beginTransaction cmd r out).gen = s.gen := rfl
@[simp] theorem State.beginTransaction_meas (s : State) (cmd : PortCommand) (r : ResultCode) (out : List Byte) : (s.beginTransaction cmd r out).meas = s.meas := rfl
@[simp] theorem State.beginTransaction_dmd (s : State) (cmd : PortCommand) (r : ResultCode) (out : List Byte) : (s.beginTransaction cmd r out).dmd = s.dmd := rfl
@[simp] theorem State.beginTransaction_inputs (s : State) (cmd : PortCommand) (r : ResultCode) (out : List Byte) : (s.beginTransaction cmd r out).inputs = s.inputs := rfl
@[simp] theorem State.beginTransaction_choices (s : State) (cmd : PortCommand) (r : ResultCode) (out : List Byte) : (s.beginTransaction cmd r out).choices = s.choices := rfl
@[simp] theorem State.beginTransaction_pending (s : State) (cmd : PortCommand) (r : ResultCode) (out : List Byte) : (s.beginTransaction cmd r out).pending = s.pending := rfl
@[simp] theorem State.beginTransaction_config (s : State) (cmd : PortCommand) (r : ResultCode) (out : List Byte) : (s.beginTransaction cmd r out).port.config = s.port.config := rfl

@[simp] theorem State.commandByte_straps (s : State) (cmd : PortCommand) (r : ResultCode) (out : List Byte) : (s.commandByte cmd r out).straps = s.straps := by
  unfold State.commandByte; split <;> simp
@[simp] theorem State.commandByte_unitNumber (s : State) (cmd : PortCommand) (r : ResultCode) (out : List Byte) : (s.commandByte cmd r out).unitNumber = s.unitNumber := by
  unfold State.commandByte; split <;> simp
@[simp] theorem State.commandByte_frame (s : State) (cmd : PortCommand) (r : ResultCode) (out : List Byte) : (s.commandByte cmd r out).frame = s.frame := by
  unfold State.commandByte; split <;> simp
@[simp] theorem State.commandByte_exch (s : State) (cmd : PortCommand) (r : ResultCode) (out : List Byte) : (s.commandByte cmd r out).exch = s.exch := by
  unfold State.commandByte; split <;> simp
@[simp] theorem State.commandByte_roster (s : State) (cmd : PortCommand) (r : ResultCode) (out : List Byte) : (s.commandByte cmd r out).roster = s.roster := by
  unfold State.commandByte; split <;> simp
@[simp] theorem State.commandByte_ctl (s : State) (cmd : PortCommand) (r : ResultCode) (out : List Byte) : (s.commandByte cmd r out).ctl = s.ctl := by
  unfold State.commandByte; split <;> simp
@[simp] theorem State.commandByte_gen (s : State) (cmd : PortCommand) (r : ResultCode) (out : List Byte) : (s.commandByte cmd r out).gen = s.gen := by
  unfold State.commandByte; split <;> simp
@[simp] theorem State.commandByte_meas (s : State) (cmd : PortCommand) (r : ResultCode) (out : List Byte) : (s.commandByte cmd r out).meas = s.meas := by
  unfold State.commandByte; split <;> simp
@[simp] theorem State.commandByte_dmd (s : State) (cmd : PortCommand) (r : ResultCode) (out : List Byte) : (s.commandByte cmd r out).dmd = s.dmd := by
  unfold State.commandByte; split <;> simp
@[simp] theorem State.commandByte_inputs (s : State) (cmd : PortCommand) (r : ResultCode) (out : List Byte) : (s.commandByte cmd r out).inputs = s.inputs := by
  unfold State.commandByte; split <;> simp
@[simp] theorem State.commandByte_choices (s : State) (cmd : PortCommand) (r : ResultCode) (out : List Byte) : (s.commandByte cmd r out).choices = s.choices := by
  unfold State.commandByte; split <;> simp
@[simp] theorem State.commandByte_pending (s : State) (cmd : PortCommand) (r : ResultCode) (out : List Byte) : (s.commandByte cmd r out).pending = s.pending := by
  unfold State.commandByte; split <;> simp
@[simp] theorem State.commandByte_config (s : State) (cmd : PortCommand) (r : ResultCode) (out : List Byte) : (s.commandByte cmd r out).port.config = s.port.config := by
  unfold State.commandByte; split <;> simp

@[simp] theorem State.advanceByte_straps (s : State) (t : Transaction) : (s.advanceByte t).straps = s.straps := rfl
@[simp] theorem State.advanceByte_unitNumber (s : State) (t : Transaction) : (s.advanceByte t).unitNumber = s.unitNumber := rfl
@[simp] theorem State.advanceByte_frame (s : State) (t : Transaction) : (s.advanceByte t).frame = s.frame := rfl
@[simp] theorem State.advanceByte_exch (s : State) (t : Transaction) : (s.advanceByte t).exch = s.exch := rfl
@[simp] theorem State.advanceByte_roster (s : State) (t : Transaction) : (s.advanceByte t).roster = s.roster := rfl
@[simp] theorem State.advanceByte_ctl (s : State) (t : Transaction) : (s.advanceByte t).ctl = s.ctl := rfl
@[simp] theorem State.advanceByte_gen (s : State) (t : Transaction) : (s.advanceByte t).gen = s.gen := rfl
@[simp] theorem State.advanceByte_meas (s : State) (t : Transaction) : (s.advanceByte t).meas = s.meas := rfl
@[simp] theorem State.advanceByte_dmd (s : State) (t : Transaction) : (s.advanceByte t).dmd = s.dmd := rfl
@[simp] theorem State.advanceByte_inputs (s : State) (t : Transaction) : (s.advanceByte t).inputs = s.inputs := rfl
@[simp] theorem State.advanceByte_choices (s : State) (t : Transaction) : (s.advanceByte t).choices = s.choices := rfl
@[simp] theorem State.advanceByte_pending (s : State) (t : Transaction) : (s.advanceByte t).pending = s.pending := rfl
@[simp] theorem State.advanceByte_config (s : State) (t : Transaction) : (s.advanceByte t).port.config = s.port.config := rfl

@[simp] theorem State.snapshot_straps (s : State) : (s.snapshot).straps = s.straps := rfl
@[simp] theorem State.snapshot_unitNumber (s : State) : (s.snapshot).unitNumber = s.unitNumber := rfl
@[simp] theorem State.snapshot_frame (s : State) : (s.snapshot).frame = s.frame := rfl
@[simp] theorem State.snapshot_exch (s : State) : (s.snapshot).exch = s.exch := rfl
@[simp] theorem State.snapshot_roster (s : State) : (s.snapshot).roster = s.roster := rfl
@[simp] theorem State.snapshot_ctl (s : State) : (s.snapshot).ctl = s.ctl := rfl
@[simp] theorem State.snapshot_gen (s : State) : (s.snapshot).gen = s.gen := rfl
@[simp] theorem State.snapshot_meas (s : State) : (s.snapshot).meas = s.meas := rfl
@[simp] theorem State.snapshot_dmd (s : State) : (s.snapshot).dmd = s.dmd := rfl
@[simp] theorem State.snapshot_inputs (s : State) : (s.snapshot).inputs = s.inputs := rfl
@[simp] theorem State.snapshot_choices (s : State) : (s.snapshot).choices = s.choices := rfl
@[simp] theorem State.snapshot_pending (s : State) : (s.snapshot).pending = s.pending := rfl
@[simp] theorem State.snapshot_config (s : State) : (s.snapshot).port.config = s.port.config := rfl

@[simp] theorem State.fixRecords_straps (s : State) : (s.fixRecords).straps = s.straps := rfl
@[simp] theorem State.fixRecords_unitNumber (s : State) : (s.fixRecords).unitNumber = s.unitNumber := rfl
@[simp] theorem State.fixRecords_frame (s : State) : (s.fixRecords).frame = s.frame := rfl
@[simp] theorem State.fixRecords_exch (s : State) : (s.fixRecords).exch = s.exch := rfl
@[simp] theorem State.fixRecords_roster (s : State) : (s.fixRecords).roster = s.roster := rfl
@[simp] theorem State.fixRecords_ctl (s : State) : (s.fixRecords).ctl = s.ctl := rfl
@[simp] theorem State.fixRecords_gen (s : State) : (s.fixRecords).gen = s.gen := rfl
@[simp] theorem State.fixRecords_meas (s : State) : (s.fixRecords).meas = s.meas := rfl
@[simp] theorem State.fixRecords_dmd (s : State) : (s.fixRecords).dmd = s.dmd := rfl
@[simp] theorem State.fixRecords_inputs (s : State) : (s.fixRecords).inputs = s.inputs := rfl
@[simp] theorem State.fixRecords_choices (s : State) : (s.fixRecords).choices = s.choices := rfl
@[simp] theorem State.fixRecords_pending (s : State) : (s.fixRecords).pending = s.pending := rfl
@[simp] theorem State.fixRecords_config (s : State) : (s.fixRecords).port.config = s.port.config := rfl

@[simp] theorem State.sampleShr_straps (s : State) : (s.sampleShr).straps = s.straps := by
  unfold State.sampleShr; split <;> simp
@[simp] theorem State.sampleShr_unitNumber (s : State) : (s.sampleShr).unitNumber = s.unitNumber := by
  unfold State.sampleShr; split <;> simp
@[simp] theorem State.sampleShr_frame (s : State) : (s.sampleShr).frame = s.frame := by
  unfold State.sampleShr; split <;> simp
@[simp] theorem State.sampleShr_roster (s : State) : (s.sampleShr).roster = s.roster := by
  unfold State.sampleShr; split <;> simp
@[simp] theorem State.sampleShr_ctl (s : State) : (s.sampleShr).ctl = s.ctl := by
  unfold State.sampleShr; split <;> simp
@[simp] theorem State.sampleShr_gen (s : State) : (s.sampleShr).gen = s.gen := by
  unfold State.sampleShr; split <;> simp
@[simp] theorem State.sampleShr_meas (s : State) : (s.sampleShr).meas = s.meas := by
  unfold State.sampleShr; split <;> simp
@[simp] theorem State.sampleShr_dmd (s : State) : (s.sampleShr).dmd = s.dmd := by
  unfold State.sampleShr; split <;> simp
@[simp] theorem State.sampleShr_port (s : State) : (s.sampleShr).port = s.port := by
  unfold State.sampleShr; split <;> simp
@[simp] theorem State.sampleShr_inputs (s : State) : (s.sampleShr).inputs = s.inputs := by
  unfold State.sampleShr; split <;> simp
@[simp] theorem State.sampleShr_choices (s : State) : (s.sampleShr).choices = s.choices := by
  unfold State.sampleShr; split <;> simp
@[simp] theorem State.sampleShr_pending (s : State) : (s.sampleShr).pending = s.pending := by
  unfold State.sampleShr; split <;> simp

@[simp] theorem State.tick_straps (s : State) : (s.tick).straps = s.straps := by
  unfold State.tick; split <;> simp
@[simp] theorem State.tick_unitNumber (s : State) : (s.tick).unitNumber = s.unitNumber := by
  unfold State.tick; split <;> simp
@[simp] theorem State.tick_roster (s : State) : (s.tick).roster = s.roster := by
  unfold State.tick; split <;> simp
@[simp] theorem State.tick_ctl (s : State) : (s.tick).ctl = s.ctl := by
  unfold State.tick; split <;> simp
@[simp] theorem State.tick_inputs (s : State) : (s.tick).inputs = s.inputs := by
  unfold State.tick; split <;> simp
@[simp] theorem State.tick_choices (s : State) : (s.tick).choices = s.choices := by
  unfold State.tick; split <;> simp
@[simp] theorem State.tick_pending (s : State) : (s.tick).pending = s.pending := by
  unfold State.tick; split <;> simp
@[simp] theorem State.tick_config (s : State) : (s.tick).port.config = s.port.config := by
  unfold State.tick; split <;> simp

end Sys2Proof.Machine
end

