-- ==== Sys2Proof/Laws/Meanings.lean ====
section
/-! SUPPORT. What the commands and the shared operations answer: the outcome of each event row by its condition, the blocks
each entry leaves behind, and what the steps of a word close pass on unchanged. -/

namespace Sys2Proof.Machine

/-- The station code is one of 0..7 (R173). -/
theorem State.code_le (s : State) : s.code ≤ 7 := by
  unfold State.code
  split
  · rename_i x _
    unfold Straps.code
    cases x.code0 <;> cases x.code1 <;> cases x.code2 <;> decide
  · omega

/-! ## The event rows -/

theorem exec_frameStart (s : State) :
    exec .frameStart s
      = .next
        (if s.riseCan then
          (let high := s.qualifyFrm true
        if s.ctl.state = .listen then high.setFrame high.frame.listenRise
        else if s.frame.takingPart then high.alignedRise
        else high.openHigh)
         else s) := rfl

theorem exec_frameFallingEdge (s : State) :
    exec .frameFallingEdge s
      = .next
        (if s.fallCan then
          (if s.follows then s.followFall else s.qualifyFrm false)
         else s) := rfl

theorem exec_markClassified (s : State) :
    exec .markClassified s
      = .next
        (if s.markDue then
          s.classifyMark
         else s) := rfl

theorem exec_pullPoint (s : State) :
    exec .pullPoint s
      = .next
        (if s.pullDue then
          (s.setFrame { s.frame with pulling := true })
         else s) := rfl

theorem exec_ownEnd (s : State) :
    exec .ownEnd s
      = .next
        (if s.ownEndDue then
          (if s.withdrawing then s.releaseFrm.endPart
        else if s.announcedFrame then s.releaseFrm.announceEnd
        else s.releaseFrm.startStuck)
         else s) := rfl

theorem exec_stuck (s : State) :
    exec .stuck s
      = .next
        (if s.stuckDue then
          (if s.ctl.state = .fault then (s.raise .stuck).stuckInFault else (s.raise .stuck).rejoin true)
         else s) := rfl

theorem exec_founding (s : State) :
    exec .founding s
      = .next
        (if s.foundingDue then
          s.found
         else s) := rfl

theorem exec_drivePoint (s : State) :
    exec .drivePoint s
      = .next
        (if s.driveDue then
          (s.driveFrame s.indexNat)
         else s) := rfl

theorem exec_wordClose (s : State) :
    exec .wordClose s
      = .next
        (if s.closeCan then
          s.closeWord
         else s) := rfl

theorem exec_leadPoint (s : State) :
    exec .leadPoint s
      = .next
        (if s.leadDue then
          (s.setGen s.gen.lead)
         else s) := rfl

theorem exec_onPoint (s : State) :
    exec .onPoint s
      = .next
        (if s.onDue then s.takeOnPoint
         else if s.pointOwed then s.takeOwedPoint
         else s) := rfl

/-- Once LG has come on as R121 gives, both gates are off with the dead time run out only in a lead window (R122). -/
theorem PhaseGenerator.resumeLg_clear (g : PhaseGenerator) :
    g.resumeLg.clear = (g.clear && g.leadWindow) := by
  simp only [PhaseGenerator.resumeLg, PhaseGenerator.clear]
  cases g.hg <;> cases g.lg <;> cases g.leadWindow <;> cases g.deadTimer.isNone <;> rfl

/-- An ACTIVE station's on-point starts or counts a pulse only in a lead window and with both gates clear (R119,
R122, R128); otherwise the duty is latched, the window ends and LG takes up again (R115, R121). -/
theorem State.takeOnPoint_of_no_pulse (s : State) (ha : s.ctl.state = .active)
    (h : s.latchedDuty < 8 ∨ s.gen.clear = false ∨ s.gen.leadWindow = false) :
    s.takeOnPoint = s.setGen (s.gen.latch s.latchedDuty).resumeLg := by
  have hn : ¬(8 ≤ s.latchedDuty ∧ s.gen.resumeLg.clear = true) := by
    rw [PhaseGenerator.resumeLg_clear]
    rcases h with h | h | h
    · omega
    · simp [h]
    · simp [h]
  have hp : ((s.setGen s.gen.resumeLg).setGen (s.gen.resumeLg.latch s.latchedDuty)).takePulse
      = (s.setGen s.gen.resumeLg).setGen (s.gen.resumeLg.latch s.latchedDuty) := by
    unfold State.takePulse; exact if_neg hn
  simp only [State.takeOnPoint, State.setGen_gen, hp, State.resumeLg, State.setGen_ctl, ha, if_true]
  simp only [State.setGen, PhaseGenerator.latch, PhaseGenerator.resumeLg]
  cases s.gen.hg <;> cases s.gen.lg <;> cases s.gen.leadWindow <;> cases s.gen.deadTimer.isNone <;> rfl

theorem exec_ociAssert (s : State) :
    exec .ociAssert s
      = .next
        (let high := s.setGen { s.gen with oci := Filter.settle 2 true }
         if s.ociCan then
           (if s.gen.inFlight then high.cutByOci
            else if s.cutOwed then high.takeOwedCut
            else high)
         else s) := rfl

theorem exec_pulseEnd (s : State) :
    exec .pulseEnd s
      = .next
        (if s.pulseEndDue then
          (s.setGen { s.gen.endPulse with ocRun := 0 })
         else s) := rfl

theorem exec_deadTimeRunOut (s : State) :
    exec .deadTimeRunOut s
      = .next
        (if s.lgDue then
          (s.setGen { s.gen with lg := true })
         else s) := rfl

theorem exec_housekeepingPace (s : State) :
    exec .housekeepingPace s
      = .next
        (if s.paceDue then
          (s.setMeas { s.meas with pace := Timer.started }).stepTally
         else s) := rfl

theorem exec_dmdInactiveEdge (s : State) :
    exec .dmdInactiveEdge s
      = .next
        (if s.inactiveCan then
          (s.setDmd { s.dmd with filter := Filter.settle 4 false, high := s.dmd.capture })
         else s) := rfl

theorem exec_dmdTimeout (s : State) :
    exec .dmdTimeout s
      = .next
        (if s.timeoutDue then
          (s.setDmd { s.dmd with timeouts := s.dmd.timeouts + 1, cond := .judged }).badPeriod
         else s) := rfl

/-! ## The entries -/

theorem State.stopSwitching_gen (s : State) :
    (s.stopSwitching).gen = s.gen.stop := rfl

theorem State.stopSwitching_meas (s : State) :
    (s.stopSwitching).meas = s.meas.leaveActive := rfl

theorem State.stopOwing_meas (s : State) :
    (s.stopOwing).meas = s.meas.leaveActive := rfl

theorem State.enterAside_gen (s : State) :
    (s.enterAside).gen = s.gen.stop := rfl

theorem State.enterAside_meas (s : State) :
    (s.enterAside).meas = s.meas.leaveActive := rfl

theorem State.enterAside_ctl (s : State) :
    (s.enterAside).ctl = { s.ctl.calm with state := .aside, decided := none, bias := true } := by simp [State.enterAside]

theorem State.enterFault_gen (s : State) (c : FaultCause) (n : Nat) :
    (s.enterFault c  n).gen = s.stopOwing.gen := by simp [State.enterFault]

theorem State.enterFault_meas (s : State) (c : FaultCause) (n : Nat) :
    (s.enterFault c  n).meas = { s.meas.leaveActive with pace := Timer.stopped, freeFrames := 0 } := by simp [State.enterFault]

theorem State.enterFault_ctl (s : State) (c : FaultCause) (n : Nat) :
    (s.enterFault c  n).ctl = { s.ctl.calm with
        state := .fault, decided := none, faultCause := some c, announce := n, haltWord := false
        bias := true } := by simp [State.enterFault]

theorem State.enterFault_port (s : State) (c : FaultCause) (n : Nat) :
    (s.enterFault c  n).port = s.port.raise c.flag := by simp [State.enterFault, State.raise]

theorem State.rejoin_frame (s : State) (b : Bool) :
    (s.rejoin b).frame = s.frame.rejoin b := rfl

theorem State.rejoin_exch (s : State) (b : Bool) :
    (s.rejoin b).exch = s.exch.cut := rfl

theorem State.rejoin_gen (s : State) (b : Bool) :
    (s.rejoin b).gen = s.gen.rejoin := rfl

theorem State.rejoin_roster (s : State) (b : Bool) :
    (s.rejoin b).roster = RosterUnit.emptied := rfl

theorem State.rejoin_ctl (s : State) (b : Bool) :
    (s.rejoin b).ctl = s.ctl.rejoin := rfl

theorem State.rejoin_meas (s : State) (b : Bool) :
    (s.rejoin b).meas = s.meas.rejoin := rfl

theorem State.endPart_frame (s : State) :
    (s.endPart).frame = { s.frame.leaveBarrier with counter := 0 } := rfl

theorem State.endPart_exch (s : State) :
    (s.endPart).exch = s.exch.cut := rfl

theorem State.endPart_ctl (s : State) :
    (s.endPart).ctl = { s.ctl with haltWord := false } := rfl

theorem State.endPart_meas (s : State) :
    (s.endPart).meas = { s.meas with freeFrames := 0 } := rfl

theorem State.enterHold_gen (s : State) :
    (s.enterHold).gen = s.gen.stop := rfl

theorem State.enterHold_meas (s : State) :
    (s.enterHold).meas = s.meas.leaveActive := rfl

/-- After an immediate stop both gates are off and no pulse is in flight (R124). -/
theorem PhaseGenerator.stop_gates (g : PhaseGenerator) :
    g.stop.hg = false ∧ g.stop.lg = false ∧ g.stop.inFlight = false ∧ g.stop.remaining = 0
      ∧ g.stop.onPoint = none ∧ g.stop.duty = 0 ∧ g.stop.ramp = 0 ∧ g.stop.ocRun = 0 :=
  ⟨rfl, rfl, rfl, rfl, rfl, rfl, rfl, rfl⟩

/-- A stop by a fault is the immediate stop, with what the instant owes noted (R92, R124). -/
theorem State.stopOwing_gen (s : State) :
    s.stopOwing.gen
      = { s.gen.stop with
          owedCut := s.gen.owedCut || (s.runEnds && s.gen.inFlight)
          owedPoint := s.gen.owedPoint || (s.runEnds && s.pulseDue) } := rfl

/-- An OVERCURRENT owed to a cut is a second cause: its flag and nothing else (R92). -/
theorem State.takeOwedCut_eq (s : State) :
    s.takeOwedCut
      = { s with gen := { s.gen with owedCut := false }, port := s.port.raise .overcurrent } := rfl

/-- An OVERCURRENT owed to an on-point likewise, and only with OCI asserted (R92, R128). -/
theorem State.takeOwedPoint_eq (s : State) :
    s.takeOwedPoint
      = { s with
          gen := { s.gen with owedPoint := false }
          port := if s.gen.ociHigh then s.port.raise .overcurrent else s.port } := by
  unfold State.takeOwedPoint; dsimp only; split <;> rfl

/-- Outside ACTIVE such a stop owes nothing new. -/
theorem State.stopOwing_gen_of_not_active (s : State) (h : s.ctl.state ≠ .active) :
    s.stopOwing.gen = s.gen.stop := by
  simp [State.stopOwing_gen, State.runEnds, h, PhaseGenerator.stop, PhaseGenerator.unschedule,
    PhaseGenerator.switchLgOff, PhaseGenerator.endPulse, PhaseGenerator.switchHgOff]

/-! ## The word close -/

theorem State.raiseIf_history (s : State) (b : Bool) (f : Flag) :
    (s.raiseIf b f).port.history = s.port.history := by
  unfold State.raiseIf; split <;> rfl

theorem State.closeHistory_history (s : State) (r : WordRecord) :
    (s.closeHistory r).port.history
      = (if 8 ≤ s.port.history.length then s.port.history.drop 1 else s.port.history)
        ++ [{ r with rosterAfter := s.roster.accepted, stateAfter := s.ctl.stateAfter }] := by
  simp only [State.closeHistory, State.setPort, PortUnit.append]
  split <;> rfl

theorem State.closeRoster_history (s : State) (r : WordRecord) :
    (s.closeRoster r).port.history = s.port.history := by
  unfold State.closeRoster
  split
  · dsimp only; rw [State.raiseIf_history]; rfl
  · rfl

/-- At an undamaged close the roster unit takes the map and the phase result, in whatever state (R68, R75). -/
theorem State.closeRoster_undamaged (s : State) (r : WordRecord) (map : CodeSet) (phase : BitVec 3)
    (hm : r.observedMap = some map) (hp : r.phaseResult = some phase) :
    (s.closeRoster r).roster
      = (s.roster.takeWord map phase s.port.config.rosterDepth.toNat s.code).1 := by
  simp [State.closeRoster, hm, hp]

/-- At a damaged close it advances the check index and concludes from unchanged inputs (R62, R75). -/
theorem State.closeRoster_damaged (s : State) (r : WordRecord) (hm : r.observedMap = none) :
    s.closeRoster r = s.setRoster (s.roster.takeDamaged s.code) := by
  simp [State.closeRoster, hm]

/-- The sent check bit is cleared at each close (R74). -/
theorem State.closeRoster_sentCheck (s : State) (r : WordRecord) :
    (s.closeRoster r).roster.sentCheck = none := by
  unfold State.closeRoster
  split
  · simp only [State.raiseIf_roster, State.setRoster_roster, RosterUnit.takeWord]
    split <;> rfl
  · rfl

theorem State.declareFault_history (s : State) (c : FaultCause) :
    (s.declareFault c).port.history = s.port.history := by
  unfold State.declareFault
  split
  · rfl
  · split <;> rfl
  · rfl
  · rfl

theorem State.closeState_history (s : State) (b : Bool) :
    (s.closeState b).port.history = s.port.history := by
  unfold State.closeState
  split
  · unfold State.closeCheck
    split
    · rfl
    · split
      · exact State.declareFault_history _ _
      · rfl
  · rfl
  · unfold State.closeShed; split <;> rfl
  · rfl
  · rfl
  · rfl
  · unfold State.closeAside; split <;> rfl
  all_goals rfl

theorem State.closeTrim_history (s : State) (r : WordRecord) :
    (s.closeTrim r).port.history = s.port.history := by
  unfold State.closeTrim
  split
  · dsimp only; rw [State.raiseIf_history]; rfl
  · rfl

theorem State.stepTally_history (s : State) : s.stepTally.port.history = s.port.history := by
  unfold State.stepTally
  split
  · rw [State.raiseIf_history]; rfl
  · rfl

theorem State.closeState_frame (s : State) (b : Bool) : (s.closeState b).frame = s.frame := by
  unfold State.closeState
  split
  · unfold State.closeCheck
    split
    · rfl
    · split
      · rename_i h _ _
        simp [State.declareFault, h]
      · rfl
  · rfl
  · unfold State.closeShed; split <;> rfl
  · rfl
  · rfl
  · rfl
  · unfold State.closeAside; split <;> rfl
  all_goals rfl

theorem State.closeState_gen (s : State) (b : Bool) (h : s.ctl.state ≠ .check) :
    (s.closeState b).gen = s.gen := by
  unfold State.closeState
  split
  · contradiction
  · rfl
  · unfold State.closeShed; split <;> rfl
  · rfl
  · rfl
  · rfl
  · unfold State.closeAside; split <;> rfl
  all_goals rfl

/-! ## One count -/

/-- One SHR sample: it joins the others exactly at its count (R38). -/
theorem State.sampleShr_eq (s : State) :
    s.sampleShr
      = s.setExch
        { s.exch with
          samples :=
            if s.frame.takingPart = true ∧ s.exch.wordOpen = true ∧ s.exch.samples.length < 3
                ∧ s.frame.counter = s.sampleAt + 2 * s.exch.samples.length then
              s.exch.samples ++ [s.exch.drive || s.inputs.shrLow]
            else s.exch.samples } := by
  unfold State.sampleShr State.sampling State.shrBit
  by_cases h : (s.frame.takingPart && s.exch.wordOpen) = true ∧ s.exch.samples.length < 3
      ∧ s.frame.counter = s.sampleAt + 2 * s.exch.samples.length
  · rw [if_pos h, if_pos (by simpa [and_assoc] using h)]
  · rw [if_neg h, if_neg (by simpa [and_assoc] using h)]; rfl

/-- One sample of a filter: the streak goes on or starts again, and the level stays (R1). -/
theorem Filter.take_eq (need : Nat) (x : Bool) (f : Filter) :
    f.take need x
      = { f with
          streak := if 0 < f.streak ∧ f.sample = x then min need (f.streak + 1) else 1
          sample := x } := by
  unfold Filter.take; split <;> rename_i h <;> simp [h]

/-- OCI takes its first level and a low level without an event (R127, R128). -/
theorem Filter.settleQuiet_oci (f : Filter) :
    f.settleQuiet 2 ociQuiet
      = if 2 ≤ f.streak ∧ (f.level = none ∨ f.sample = false) then ⟨2, f.sample, some f.sample⟩ else f := by
  unfold Filter.settleQuiet Filter.qualified ociQuiet Filter.settle
  by_cases h : 2 ≤ f.streak <;> simp [h]

/-- DMD takes its first level without an event (R150). -/
theorem Filter.settleQuiet_dmd (f : Filter) :
    f.settleQuiet 4 dmdQuiet
      = if 4 ≤ f.streak ∧ f.level = none then ⟨4, f.sample, some f.sample⟩ else f := by
  unfold Filter.settleQuiet Filter.qualified dmdQuiet Filter.settle
  by_cases h : 4 ≤ f.streak <;> simp [h]

/-- A filter turns from `old` to `v` when enough equal samples show `v`. -/
theorem Filter.turns_iff (need : Nat) (old : Option Bool) (v : Bool) (f : Filter) :
    f.turns need old v = true ↔ f.level = old ∧ need ≤ f.streak ∧ f.sample = v := by
  simp only [Filter.turns, Filter.qualified]
  split <;> simp_all

/-- A started station's due events are those of its list of events that have come due. -/
theorem State.mem_dueEvents (s : State) (h : s.started = true) (c : Instr) :
    c ∈ s.dueEvents ↔ (true, c) ∈ s.events := by
  unfold State.dueEvents
  rw [if_pos h]
  simp only [List.mem_filterMap]
  constructor
  · rintro ⟨⟨a, b⟩, h1, h2⟩
    cases a <;> simp at h2
    subst h2; exact h1
  · intro hm; exact ⟨_, hm, by simp⟩

/-! ## The close, seen from the frame line -/

/-- A close clears the word in progress and advances the word number (R47). -/
theorem State.closeWord_exch (s : State) :
    s.closeWord.exch = { s.exch.cleared with wordNumber := s.exch.wordNumber + 1 } := by
  simp [State.closeWord, State.closeExchange]

/-- A close moves the mark-error memory on and leaves the rest of the frame unit alone (R28). -/
theorem State.closeWord_frame (s : State) :
    s.closeWord.frame = { s.frame with markLast := s.frame.markThis, markThis := false } := by
  simp [State.closeWord, State.closeExchange, State.closeState_frame]

end Sys2Proof.Machine
end

