-- ==== Sys2Proof/Laws/PerInstr.lean ====
section
/-! SUPPORT. A law of the commands as syntax, one lemma a constructor: a command is well formed exactly when it is not an
UNKNOWN row that carries a command code. -/

namespace Sys2Proof.Laws.WellFormedRow

/-- A command is well formed exactly when no UNKNOWN row with a command code spells it (R175). -/
def Statement (i : Instr) : Prop := i.wf = true ↔ ∀ code byte, i = .unknown code byte → code ∉ commandCodes

theorem reset : Statement .reset := by simp [Statement, Instr.wf]
theorem resetRelease (straps : Straps) (ssnLow : Bool) : Statement (.resetRelease straps ssnLow) := by simp [Statement, Instr.wf]
theorem frameStart : Statement .frameStart := by simp [Statement, Instr.wf]
theorem frameFallingEdge : Statement .frameFallingEdge := by simp [Statement, Instr.wf]
theorem markClassified : Statement .markClassified := by simp [Statement, Instr.wf]
theorem pullPoint : Statement .pullPoint := by simp [Statement, Instr.wf]
theorem ownEnd : Statement .ownEnd := by simp [Statement, Instr.wf]
theorem stuck : Statement .stuck := by simp [Statement, Instr.wf]
theorem listenStuckDeclared : Statement .listenStuckDeclared := by simp [Statement, Instr.wf]
theorem founding : Statement .founding := by simp [Statement, Instr.wf]
theorem freeRunFrame : Statement .freeRunFrame := by simp [Statement, Instr.wf]
theorem drivePoint : Statement .drivePoint := by simp [Statement, Instr.wf]
theorem bitTime (sample : Bool) : Statement (.bitTime sample) := by simp [Statement, Instr.wf]
theorem wordClose : Statement .wordClose := by simp [Statement, Instr.wf]
theorem housekeepingPace : Statement .housekeepingPace := by simp [Statement, Instr.wf]
theorem warmUpComplete : Statement .warmUpComplete := by simp [Statement, Instr.wf]
theorem leadPoint : Statement .leadPoint := by simp [Statement, Instr.wf]
theorem onPoint : Statement .onPoint := by simp [Statement, Instr.wf]
theorem pulseEnd : Statement .pulseEnd := by simp [Statement, Instr.wf]
theorem deadTimeRunOut : Statement .deadTimeRunOut := by simp [Statement, Instr.wf]
theorem currentTrigger : Statement .currentTrigger := by simp [Statement, Instr.wf]
theorem ociAssert : Statement .ociAssert := by simp [Statement, Instr.wf]
theorem conversionComplete (code : Reading) : Statement (.conversionComplete code) := by simp [Statement, Instr.wf]
theorem dmdActiveEdge : Statement .dmdActiveEdge := by simp [Statement, Instr.wf]
theorem dmdInactiveEdge : Statement .dmdInactiveEdge := by simp [Statement, Instr.wf]
theorem dmdTimeout : Statement .dmdTimeout := by simp [Statement, Instr.wf]
theorem ident (byte : PortByte) : Statement (.ident byte) := by simp [Statement, Instr.wf]
theorem readConfig (byte : PortByte) : Statement (.readConfig byte) := by simp [Statement, Instr.wf]
theorem writeConfig (byte : PortByte) : Statement (.writeConfig byte) := by simp [Statement, Instr.wf]
theorem start (byte : PortByte) : Statement (.start byte) := by simp [Statement, Instr.wf]
theorem readStatus (byte : PortByte) : Statement (.readStatus byte) := by simp [Statement, Instr.wf]
theorem readRoster (byte : PortByte) : Statement (.readRoster byte) := by simp [Statement, Instr.wf]
theorem readHistory (byte : PortByte) : Statement (.readHistory byte) := by simp [Statement, Instr.wf]
theorem aside (byte : PortByte) : Statement (.aside byte) := by simp [Statement, Instr.wf]
theorem ret (byte : PortByte) : Statement (.ret byte) := by simp [Statement, Instr.wf]
theorem clearFault (byte : PortByte) : Statement (.clearFault byte) := by simp [Statement, Instr.wf]
theorem unknown (code : Byte) (byte : PortByte) : Statement (.unknown code byte) := by
  simp [Statement, Instr.wf]
theorem transactionCut : Statement .transactionCut := by simp [Statement, Instr.wf]
theorem frmFirstQualifiedLevel (high : Bool) : Statement (.frmFirstQualifiedLevel high) := by simp [Statement, Instr.wf]

end Sys2Proof.Laws.WellFormedRow
end

