-- ==== Sys2Proof/Tests/Slice0.lean ====
section
/-! SUPPORT. The model's own tests: the well-formedness smoke test, one small test or two of each command, and for each
statement that has hypotheses a state and operands that meet them together, clause by clause. -/

namespace Sys2Proof.Tests

open Sys2Proof Sys2Proof.Machine

/-! ## Small states -/

/-- The state a command leads to. -/
def after (c : Instr) (s : State) : State :=
  match exec c s with
  | .next t => t
  | _ => s

/-- Code 3, AUTO low, POL high. -/
def strapsLow : Straps := ⟨true, true, false, false, true⟩

/-- A station in SETUP with its straps sampled and unit number 0x0005. -/
def setup : State := { State.reset with unitNumber := 0x0005, straps := some strapsLow }

/-- A controller in a state with no aside cause. -/
def controller (q : StationState) : Controller :=
  { Controller.reset with state := q, causes := ⟨false, false, false⟩ }

/-- A station that takes part, in frame `i` at count `n`, with a word open and FRM high. -/
def aligned (q : StationState) (i : Fin 30) (n : Nat) : State :=
  { setup with
    ctl := controller q
    frame :=
      { FrameUnit.reset with
        takingPart := true, index := some i, counter := n, filter := ⟨2, true, some true⟩
        classed := .opened, checked := true }
    exch := { ExchangeUnit.reset with wordOpen := true }
    dmd := { DemandMonitor.reset with valid := true } }

/-- The same with FRM low. -/
def alignedLow (q : StationState) (i : Fin 30) (n : Nat) : State :=
  { aligned q i n with
    frame := { (aligned q i n).frame with filter := ⟨2, false, some false⟩, classed := .normal } }

/-- A listening station with a qualified level, or none. -/
def listening (level : Option Bool) (n : Nat) : State :=
  { setup with
    ctl := { Controller.reset with state := .listen }
    frame := { FrameUnit.reset with counter := n, filter := ⟨2, true, level⟩, classed := .opened } }

/-- Announced word `n` of a station in FAULT. -/
def announcing (c : FaultCause) (n : Nat) (count : Nat) : State :=
  { aligned .fault 0 count with
    ctl := { controller .fault with faultCause := some c, announce := n, haltWord := true } }

/-- A station at the bit time of frame `i`, with three samples taken. -/
def atBitTime (q : StationState) (i : Fin 30) (x : Bool) : State :=
  { aligned q i 326 with exch := { ExchangeUnit.reset with wordOpen := true, samples := [x, x, x] } }

/-- A station whose close is due. -/
def closing (q : StationState) (damaged : Bool) : State :=
  { aligned q 29 326 with
    exch := { ExchangeUnit.reset with wordOpen := true, closeDue := true, damaged := damaged } }

/-- An ACTIVE station at its on-point 213 in its lead window, with both gates off and a ramp of 300. -/
def atOnPoint (lastGood : Reading) : State :=
  { aligned .active 3 213 with
    gen := { PhaseGenerator.reset with onPoint := some 213, ramp := 300, leadWindow := true }
    dmd := { DemandMonitor.reset with valid := true, lastGood := lastGood } }

/-- A pulse in flight. -/
def pulsing (q : StationState) (duty remaining : Nat) : State :=
  { aligned q 3 300 with
    gen :=
      { PhaseGenerator.reset with
        hg := true, inFlight := true, remaining := remaining, pulseDuty := duty, duty := duty
        oci := ⟨2, false, some false⟩ } }

/-- A conversion of a channel at its last count, with a queue. -/
def converting (q : StationState) (ch : Channel) (queue : List Channel) : State :=
  { aligned q 3 400 with
    meas := { MeasurementUnit.reset with conv := some ⟨ch, 40, 0, false⟩, queue := queue } }

/-- A station in FAULT that has ended its part in the barrier. -/
def ended (c : FaultCause) (n : Nat) : State :=
  { setup with
    ctl := { controller .fault with faultCause := some c }
    frame := { FrameUnit.reset with counter := n } }

/-- A station with a transaction in progress. -/
def talking (s : State) (cmd : PortCommand) (result : ResultCode) (bytes : Nat) : State :=
  { s with port := { s.port with txn := some ⟨cmd, result, bytes, [], [], 0, 0⟩ } }

/-! ## Well-formedness -/

theorem test_wf_unknown : (Instr.unknown 0x00 .command).wf = true := by decide

theorem test_wf_unknown_last : (Instr.unknown 0xFF (.later 0)).wf = true := by decide

theorem test_ill_formed_unknown_with_a_command_code : (Instr.unknown 0x12 .command).wf = false := by decide

theorem test_wf_law : Laws.WellFormedRow.Statement .reset := Laws.WellFormedRow.reset

/-! ## The commands -/

theorem test_reset : (after .reset (aligned .active 3 100)).ctl = Controller.reset := by decide

theorem test_resetRelease_auto_starts :
    (after (.resetRelease { strapsLow with auto := true } false) State.reset).ctl.state = .listen := by decide

theorem test_resetRelease_waits :
    (after (.resetRelease strapsLow false) State.reset).ctl.state = .setup := by decide

theorem test_frameStart_latches_the_wait :
    (after .frameStart
        { alignedLow .shed 3 650 with
          frame := { (alignedLow .shed 3 650).frame with ownEnd := true }
          exch := ExchangeUnit.reset }).frame.lastWait = 10 := by decide

theorem test_frameStart_cut_short_is_unsettled :
    (after .frameStart (alignedLow .shed 3 100)).exch.damaged = true := by decide

theorem test_frameStart_leaves_an_emptied_schedule_empty :
    let s := { alignedLow .check 29 642 with
      exch := ExchangeUnit.reset
      roster := { RosterUnit.emptied with rank := some 1, nActive := 3 } }
    (after .frameStart s).gen.nActive = none ∧ (after .frameStart s).gen.rank = none := by decide

theorem test_frameFallingEdge : (after .frameFallingEdge (aligned .shed 3 18)).frame.lastHigh = 18 := by decide

theorem test_frameFallingEdge_in_frame_zero_is_an_error :
    (after .frameFallingEdge (aligned .shed 0 18)).exch.damaged = true := by decide

theorem test_frameFallingEdge_latches_after_a_rejoin_with_the_line_high :
    let s := { talking (ended .duplicate 5) .clearFault .accepted 1 with
      frame := { FrameUnit.reset with counter := 700, filter := ⟨2, true, some true⟩, classed := .opened } }
    (after .frameFallingEdge (after (.clearFault (.later 0)) s)).frame.lastHigh = 700 := by decide

theorem test_markClassified_expected : (after .markClassified (aligned .shed 0 32)).frame.classed = .mark := by decide

theorem test_markClassified_aligns :
    (after .markClassified
        { listening (some true) 32 with
          frame := { (listening (some true) 32).frame with armed := true } }).frame.index = some 0 := by decide

theorem test_pullPoint_frame_zero : (after .pullPoint (aligned .shed 0 48)).frame.pulling = true := by decide

theorem test_pullPoint_not_at_16_of_frame_zero :
    (after .pullPoint (aligned .shed 0 16)).frame.pulling = false := by decide

theorem test_ownEnd :
    (after .ownEnd
        { alignedLow .shed 3 640 with
          frame := { (alignedLow .shed 3 640).frame with pulling := true } }).frame.pulling = false := by decide

theorem test_ownEnd_last_announced_word :
    (after .ownEnd (announcing .overcurrent 1 640)).frame.takingPart = false := by decide

theorem test_stuck :
    (after .stuck
        { alignedLow .shed 3 3200 with
          frame := { (alignedLow .shed 3 3200).frame with stuckTimer := ⟨true, 2560⟩ } }).ctl.state
      = .listen := by decide

theorem test_listenStuckDeclared :
    (after .listenStuckDeclared
        { listening (some false) 0 with
          frame := { (listening (some false) 0).frame with stuckTimer := ⟨true, 2560⟩ } }).frame.declared
      = true := by decide

theorem test_founding_code_3_after_six_frames :
    (after .founding
        { listening (some true) 3840 with
          frame := { (listening (some true) 3840).frame with quietTimer := ⟨true, 3840⟩ } }).frame.index
      = some 29 := by decide

theorem test_freeRunFrame : (after .freeRunFrame (ended .overcurrent 640)).frame.counter = 0 := by decide

theorem test_frmFirstQualifiedLevel :
    (after (.frmFirstQualifiedLevel true) (listening none 2)).frame.quietTimer = ⟨true, 0⟩ := by decide

theorem test_drivePoint_own_presence : (after .drivePoint (aligned .shed 7 56)).exch.drive = true := by decide

theorem test_drivePoint_other_slot : (after .drivePoint (aligned .shed 5 56)).exch.drive = false := by decide

theorem test_bitTime_settled : (after (.bitTime true) (atBitTime .shed 5 true)).exch.presence = [.one] := by decide

theorem test_bitTime_unsettled : (after (.bitTime false) (atBitTime .shed 5 true)).exch.damaged = true := by decide

theorem test_wordClose_counts : (after .wordClose (closing .shed false)).exch.wordNumber = 1 := by decide

theorem test_wordClose_keeps_a_record : (after .wordClose (closing .shed true)).port.history.length = 1 := by decide

theorem test_wordClose_in_aside_takes_the_census :
    let s := { closing .aside false with
      ctl := { Controller.reset with state := .aside }
      exch := { (closing .aside false).exch with presence := [.one] } }
    (after .wordClose s).roster.observed = 1 ∧ (after .wordClose s).roster.agree = 1 := by decide

/-- A rejoin empties the roster unit (R32), and a close in CHECK takes the census again (R70). -/
theorem test_rejoin_empties_to_the_close_in_check :
    let s := { aligned .fault 3 100 with
      ctl := { controller .fault with faultCause := some .overcurrent }
      roster := { RosterUnit.emptied with observed := 9, candidate := 9, agree := 2, accepted := 9, rank := some 1 } }
    let t := after (.clearFault (.later 0)) (talking s .clearFault .accepted 1)
    t.ctl.state = .listen ∧ t.roster = RosterUnit.emptied ∧ t.startCheck.roster = RosterUnit.emptied
      ∧ (after .wordClose { closing .check false with roster := t.startCheck.roster }).roster.agree = 1 := by decide

/-- A station that rejoined with a cause present passes through CHECK to ASIDE (R82), and its roster unit takes the
census of its first close there (R75; log 24). -/
theorem test_wordClose_in_aside_after_a_rejoin :
    let t := ({ aligned .shed 3 100 with ctl := { Controller.reset with state := .aside } }.rejoin false).startCheck
    let u := after .wordClose { closing .aside false with
      ctl := t.ctl, exch := { (closing .aside false).exch with presence := [.one] }, roster := t.roster }
    t.ctl.state = .aside ∧ t.roster = RosterUnit.emptied ∧ u.roster.observed = 1 ∧ u.roster.agree = 1 := by decide

/-- The close that takes a WARMING station out of the set keeps the warm-up count, and the frame 0 start that enters
PARKED makes it 0 (R105, R107; log 28). -/
theorem test_warm_count_ends_with_the_entry_to_parked :
    let s := { closing .warming false with ctl := { controller .warming with warmCount := 5 } }
    let t := after .wordClose s
    t.ctl.decided = some .parked ∧ t.ctl.warmCount = 5 ∧ t.takeDecided.ctl.warmCount = 0 := by decide

theorem test_housekeepingPace :
    (after .housekeepingPace
        { listening none 0 with meas := { MeasurementUnit.reset with pace := ⟨true, 19200⟩, tally := 3 } }).meas.queue
      = [.tsns, .vsns] := by decide

theorem test_warmUpComplete :
    (after .warmUpComplete
        { aligned .warming 5 0 with
          ctl := { controller .warming with warmCount := 64 }
          roster := { RosterUnit.emptied with inSet := true } }).ctl.state = .active := by decide

theorem test_leadPoint :
    (after .leadPoint
        { aligned .active 3 201 with
          gen := { PhaseGenerator.reset with onPoint := some 213, lg := true } }).gen.deadTimer = some 0 := by decide

theorem test_onPoint_starts : (after .onPoint (atOnPoint 512)).gen.remaining = 300 := by decide

theorem test_onPoint_skips_a_short_pulse : (after .onPoint (atOnPoint 12)).gen.hg = false := by decide

/-- A new on-point 5, below DEAD, with no lead point in frame 29 before it and the old pulse's dead time run out at this
very count: LG is on at the on-point and frame 0 has no pulse, whichever of the two rows comes first (R122). -/
theorem test_onPoint_without_a_lead_point :
    let s := { aligned .active 0 5 with
      gen := { PhaseGenerator.reset with onPoint := some 5, ramp := 300 }
      dmd := { DemandMonitor.reset with valid := true, lastGood := 512 } }
    (after .onPoint s).gen.hg = false ∧ (after .onPoint s).gen.lg = true
      ∧ after .deadTimeRunOut (after .onPoint s) = after .onPoint (after .deadTimeRunOut s) := by decide

theorem test_pulseEnd : (after .pulseEnd (pulsing .active 100 0)).gen.hg = false := by decide

theorem test_deadTimeRunOut : (after .deadTimeRunOut (aligned .active 3 400)).gen.lg = true := by decide

theorem test_currentTrigger :
    (after .currentTrigger (pulsing .active 100 50)).meas.conv = some ⟨.isns, 0, 0, false⟩ := by decide

theorem test_currentTrigger_of_a_short_pulse :
    (after .currentTrigger (pulsing .active 15 8)).meas.conv = none := by decide

theorem test_ociAssert : (after .ociAssert (pulsing .active 100 60)).gen.ocRun = 1 := by decide

theorem test_ociAssert_after_an_aside_cause_of_the_instant_declares_nothing :
    let s := { pulsing .active 100 60 with gen := { (pulsing .active 100 60).gen with ocRun := 3 } }
    let t := after .ociAssert (after (.aside (.later 0)) (talking s .aside .accepted 1))
    t.ctl.state = .aside ∧ t.gen.ocRun = 0 ∧ t.flagSet .overcurrent = false := by decide

theorem test_ociAssert_after_overtemp_of_the_instant_sets_both_flags :
    let s := { converting .active .tsns [.tsns] with gen := { (pulsing .active 100 60).gen with ocRun := 3 } }
    let t := after .ociAssert (after (.conversionComplete 900) s)
    t.ctl.state = .fault ∧ t.ctl.faultCause = some .overtemp ∧ t.ctl.announce = 2 ∧ t.flagSet .overcurrent = true
      ∧ t.flagSet .overtemp = true := by decide

/-- A contender that left ACTIVE after the drive point of frame 29 has not won (R46). -/
theorem test_leaver_after_the_last_drive_point_has_not_won :
    let s := fun (q : StationState) =>
      { atBitTime q 29 true with
        exch := { (atBitTime q 29 true).exch with drive := true, current := ⟨true, true, some 1, []⟩ } }
    (after (.bitTime true) (s .active)).exch.record.won = some true
      ∧ (after (.bitTime true) (s .aside)).exch.record.won = some false
      ∧ (after (.bitTime true) (s .hold)).exch.record.won = some false := by decide

theorem test_conversionComplete :
    (after (.conversionComplete 600) (converting .active .isns [])).meas.accSum = 600 := by decide

theorem test_conversionComplete_overtemp :
    (after (.conversionComplete 900) (converting .active .tsns [.tsns, .vsns])).ctl.faultCause
      = some .overtemp := by decide

theorem test_dmdActiveEdge :
    (after .dmdActiveEdge
        { aligned .shed 3 0 with
          dmd :=
            { DemandMonitor.reset with
              filter := ⟨4, false, some false⟩, cond := .opened, capture := 1280, high := 512 } }).dmd.lastGood
      = 409 := by decide

theorem test_dmdInactiveEdge :
    (after .dmdInactiveEdge
        { aligned .shed 3 0 with
          dmd := { DemandMonitor.reset with filter := ⟨4, true, some true⟩, capture := 512 } }).dmd.high
      = 512 := by decide

theorem test_dmdTimeout :
    (after .dmdTimeout
        { aligned .shed 3 0 with
          dmd := { DemandMonitor.reset with valid := true, badRun := 1, capture := 4001 } }).ctl.state
      = .aside := by decide

theorem test_ident :
    (after (.ident .command) setup).port.txn.map Transaction.out = some [0x2E, 0x01, 0x00, 0x05, 0x13] := by decide

theorem test_readConfig :
    (after (.readConfig .command) setup).port.txn.map (fun t => t.out.take 3) = some [0x02, 0x80, 12] := by decide

theorem test_writeConfig_outside_setup :
    (after (.writeConfig .command) (aligned .shed 3 0)).port.txn.map Transaction.result
      = some .refusedState := by decide

theorem test_start_with_the_defaults_is_accepted :
    (after (.start .command) setup).port.txn.map Transaction.result = some .accepted := by decide

theorem test_start_enters_listen :
    (after (.start (.later 0)) (talking setup .start .accepted 1)).ctl.state = .listen := by decide

theorem test_readStatus_bytes :
    (after (.readStatus .command) setup).port.txn.map (fun t => t.out.length) = some 28 := by decide

theorem test_readRoster :
    (after (.readRoster .command) setup).port.txn.map Transaction.out = some [0, 0, 0, 0, 0xFF, 1, 0] := by decide

theorem test_readHistory_empty :
    (after (.readHistory .command) setup).port.txn.map Transaction.out = some [0] := by decide

theorem test_aside :
    (after (.aside (.later 0)) (talking (aligned .active 3 0) .aside .accepted 1)).ctl.state = .aside := by decide

theorem test_return :
    (after (.ret (.later 0))
        (talking { setup with ctl := { Controller.reset with state := .listen, causes := ⟨true, false, true⟩ } }
          .ret .accepted 1)).ctl.causes = ⟨true, false, false⟩ := by decide

theorem test_clearFault :
    (after (.clearFault (.later 0)) (talking (ended .duplicate 5) .clearFault .accepted 1)).ctl.state
      = .listen := by decide

theorem test_clearFault_with_no_level_yet_starts_neither_timer :
    let s := { talking (ended .duplicate 5) .clearFault .accepted 1 with frame := FrameUnit.reset }
    let t := after (.clearFault (.later 0)) s
    t.frame.quietTimer = ⟨false, 0⟩ ∧ t.frame.stuckTimer = ⟨false, 0⟩
      ∧ (after (.frmFirstQualifiedLevel true) t).frame.quietTimer = ⟨true, 0⟩ := by decide

theorem test_unknown :
    (after (.unknown 0x77 (.later 0)) (talking setup .unknown .unknown 1)).port.sdo = some 0x82 := by decide

theorem test_transactionCut :
    (after .transactionCut (talking setup .writeConfig .accepted 9)).port.txn = none := by decide

/-! ## Witnesses: states and operands that meet the hypotheses of the statements -/

theorem test_witness_RecordAndStrapsStayFixedAfterStart :
    ∃ t, exec .pullPoint (aligned .shed 3 16) = .next t ∧ Instr.pullPoint ≠ .reset
      ∧ (aligned .shed 3 16).ctl.state ≠ .setup ∧ (aligned .shed 3 16).straps ≠ none := 
  ⟨_, rfl, by decide, by decide, by decide⟩

theorem test_witness_EmptyQueueRunsTheStation_none_due :
    (aligned .shed 3 100).pending = [] ∧ (aligned .shed 3 100).dueEvents = [] := by decide

theorem test_witness_EmptyQueueRunsTheStation_one_due :
    (aligned .shed 3 16).pending = [] ∧ (aligned .shed 3 16).dueEvents = [.pullPoint] := by decide

theorem test_witness_EmptyQueueRunsTheStation_two_due :
    (aligned .active 3 16).pending = [] ∧ (aligned .active 3 16).dueEvents = [.pullPoint, .deadTimeRunOut] := by decide

theorem test_witness_EmptyQueueRunsTheStation_in_setup :
    setup.pending = [] ∧ setup.ctl.state = .setup ∧ (aligned .shed 3 100).ctl.state ≠ .setup := by decide

theorem test_witness_EventsComeDueAtTheirInstants :
    (aligned .shed 3 16).ctl.state ≠ .setup ∧ (aligned .shed 3 16).dueEvents = [.pullPoint]
      ∧ (aligned .shed 0 16).dueEvents = [] ∧ (aligned .shed 0 48).dueEvents = [.pullPoint]
      ∧ (aligned .shed 0 32).dueEvents = [.markClassified] ∧ (aligned .shed 3 56).dueEvents = [.drivePoint]
      ∧ (aligned .shed 3 640).dueEvents = [.ownEnd] ∧ (aligned .shed 3 639).dueEvents = []
      ∧ (atBitTime .shed 5 true).dueEvents = [.bitTime false]
      ∧ (closing .shed false).dueEvents = [.wordClose]
      ∧ (ended .overcurrent 640).dueEvents = [.freeRunFrame]
      ∧ (converting .shed .isns []).dueEvents = [.conversionComplete 0] := by decide

theorem test_witness_EventsChangeNothingInSetup :
    Instr.frameStart.isEvent = true ∧ setup.ctl.state = .setup ∧ setup.frame.takingPart = false
      ∧ setup.gen.inFlight = false := by decide

theorem test_witness_ResetReleaseSamplesTheStraps :
    State.reset.straps = none ∧ State.reset.ctl.state = .setup ∧ strapsLow.auto = false
      ∧ { strapsLow with auto := true }.auto = true := by decide

theorem test_witness_PullPointPullsTheLine :
    let s := aligned .shed 0 48; let u := aligned .shed 29 16; let v := aligned .shed 1 16
    (s.frame.takingPart = true ∧ s.frame.index = some 0 ∧ s.frame.counter = (if (0 : Fin 30) = 0 then 48 else 16))
      ∧ (u.frame.takingPart = true ∧ u.frame.index = some 29 ∧ u.frame.counter = (if (29 : Fin 30) = 0 then 48 else 16))
      ∧ (v.frame.takingPart = true ∧ v.frame.index = some 1 ∧ v.frame.counter = (if (1 : Fin 30) = 0 then 48 else 16)) := by decide

theorem test_witness_MarkAlignsAnArmedListener :
    let s := listening (some true) 32
    let u := { listening (some true) 32 with
      frame := { (listening (some true) 32).frame with armed := true } }
    (s.ctl.state = .listen ∧ s.frame.classed = .opened ∧ s.frame.counter = 32
        ∧ s.frame.filter.level = some true ∧ s.frame.armed = false)
      ∧ (u.ctl.state = .listen ∧ u.frame.classed = .opened ∧ u.frame.counter = 32
        ∧ u.frame.filter.level = some true ∧ u.frame.armed = true) := by decide

theorem test_witness_FoundingPullsTheLine :
    let s := { listening (some true) 3840 with
      frame := { (listening (some true) 3840).frame with quietTimer := ⟨true, 3840⟩ } }
    s.ctl.state = .listen ∧ s.frame.quietTimer.running = true ∧ (3 + s.code) * s.frameLen ≤ s.frame.quietTimer.count := by decide

theorem test_witness_OwnEndReleasesTheLine :
    let s := aligned .shed 3 640; let u := alignedLow .shed 0 640
    (s.frame.takingPart = true ∧ s.frame.counter = s.frameLen ∧ s.frame.ownEnd = false ∧ s.ctl.state ≠ .fault)
      ∧ (u.frame.takingPart = true ∧ u.frame.counter = u.frameLen ∧ u.frame.ownEnd = false ∧ u.ctl.state ≠ .fault) := by decide

theorem test_witness_OwnEndReleasesTheLine_in_fault :
    let s := announcing .duplicate 0 640; let u := announcing .overcurrent 1 640
    let v := announcing .overtemp 2 640
    (s.frame.takingPart = true ∧ s.frame.counter = s.frameLen ∧ s.frame.ownEnd = false ∧ s.ctl.state = .fault
        ∧ s.ctl.faultCause = some .duplicate)
      ∧ (u.frame.takingPart = true ∧ u.frame.counter = u.frameLen ∧ u.frame.ownEnd = false ∧ u.ctl.state = .fault
        ∧ u.ctl.faultCause ≠ some .duplicate ∧ u.ctl.haltWord = true ∧ u.frame.index = some 0
        ∧ u.ctl.announce = 1)
      ∧ (v.frame.takingPart = true ∧ v.frame.counter = v.frameLen ∧ v.frame.ownEnd = false ∧ v.ctl.state = .fault
        ∧ v.ctl.faultCause ≠ some .duplicate ∧ v.ctl.haltWord = true ∧ v.frame.index = some 0
        ∧ v.ctl.announce = 2) := by decide

theorem test_witness_OwnEndReleasesTheLine_in_fault_outside_an_announced_frame :
    let s := aligned .fault 3 640
    s.frame.takingPart = true ∧ s.frame.counter = s.frameLen ∧ s.frame.ownEnd = false ∧ s.ctl.state = .fault
      ∧ s.ctl.faultCause ≠ some .duplicate ∧ ¬(s.ctl.haltWord = true ∧ s.frame.index = some 0) := by decide

theorem test_witness_FrameStartOpensTheNextFrame_first :
    let s := { alignedLow .active 0 642 with exch := { ExchangeUnit.reset with wordOpen := true, samples := [false, false, false, false] } }
    s.started = true ∧ s.frame.filter.level = some false ∧ s.frame.takingPart = true ∧ s.ctl.state ≠ .listen
      ∧ s.frame.index = some 0 ∧ (s.exch.wordOpen = false ∨ 4 ≤ s.exch.samples.length) ∧ s.exch.closeDue = false
      ∧ ¬(s.ctl.state = .fault ∧ s.ctl.faultCause = some .duplicate) ∧ (0 : Fin 30) ≠ 29 := by decide

theorem test_witness_FrameStartOpensTheNextFrame_last :
    let s := { alignedLow .warming 28 642 with exch := { ExchangeUnit.reset with wordOpen := true, samples := [true, true, true, true] } }
    s.started = true ∧ s.frame.filter.level = some false ∧ s.frame.takingPart = true ∧ s.ctl.state ≠ .listen
      ∧ s.frame.index = some 28 ∧ (s.exch.wordOpen = false ∨ 4 ≤ s.exch.samples.length) ∧ s.exch.closeDue = false
      ∧ ¬(s.ctl.state = .fault ∧ s.ctl.faultCause = some .duplicate) ∧ (28 : Fin 30) ≠ 29 := by decide

theorem test_witness_FrameZeroStartTakesTheDecision :
    let s := { { alignedLow .shed 29 642 with exch := { ExchangeUnit.reset with wordNumber := 4 } } with
      ctl := { controller .shed with decided := some .active }
      roster := { RosterUnit.emptied with rank := some 1, nActive := 3 } }
    s.started = true ∧ s.frame.filter.level = some false ∧ s.frame.takingPart = true ∧ s.ctl.state ≠ .listen
      ∧ s.frame.index = some 29 ∧ (s.exch.wordOpen = false ∨ 4 ≤ s.exch.samples.length) ∧ s.exch.closeDue = false
      ∧ ¬(s.ctl.state = .fault ∧ s.ctl.faultCause = some .duplicate) ∧ s.ctl.stateAfter = .active ∧ s.roster.rank = some 1 ∧ 1 < s.roster.nActive
      ∧ s.ctl.decided = some .active := by decide

theorem test_witness_FrameZeroStartTakesTheDecision_shed :
    let s := { { alignedLow .active 29 642 with exch := { ExchangeUnit.reset with wordNumber := 4 } } with
      ctl := { controller .active with decided := some .shed } }
    s.started = true ∧ s.frame.filter.level = some false ∧ s.frame.takingPart = true ∧ s.ctl.state ≠ .listen
      ∧ s.frame.index = some 29 ∧ (s.exch.wordOpen = false ∨ 4 ≤ s.exch.samples.length) ∧ s.exch.closeDue = false
      ∧ ¬(s.ctl.state = .fault ∧ s.ctl.faultCause = some .duplicate) ∧ s.ctl.stateAfter ≠ .active ∧ s.ctl.decided = some .shed := by decide

theorem test_witness_FrameZeroStartTakesTheDecision_parked :
    let s := { { alignedLow .shed 29 642 with exch := { ExchangeUnit.reset with wordNumber := 4 } } with
      ctl := { controller .shed with decided := some .parked } }
    s.started = true ∧ s.frame.filter.level = some false ∧ s.frame.takingPart = true ∧ s.ctl.state ≠ .listen
      ∧ s.frame.index = some 29 ∧ (s.exch.wordOpen = false ∨ 4 ≤ s.exch.samples.length) ∧ s.exch.closeDue = false
      ∧ ¬(s.ctl.state = .fault ∧ s.ctl.faultCause = some .duplicate) ∧ s.ctl.stateAfter ≠ .active ∧ s.ctl.decided = some .parked := by decide

theorem test_witness_FrameZeroStartTakesTheDecision_warming :
    let s := { { alignedLow .parked 29 642 with exch := { ExchangeUnit.reset with wordNumber := 4 } } with
      ctl := { controller .parked with decided := some .warming } }
    s.started = true ∧ s.frame.filter.level = some false ∧ s.frame.takingPart = true ∧ s.ctl.state ≠ .listen
      ∧ s.frame.index = some 29 ∧ (s.exch.wordOpen = false ∨ 4 ≤ s.exch.samples.length) ∧ s.exch.closeDue = false
      ∧ ¬(s.ctl.state = .fault ∧ s.ctl.faultCause = some .duplicate) ∧ s.ctl.stateAfter ≠ .active ∧ s.ctl.decided = some .warming := by decide

theorem test_witness_FrameZeroStartTakesTheDecision_rank_at_nActive :
    let s := { { alignedLow .active 29 642 with exch := { ExchangeUnit.reset with wordNumber := 4 } } with
      roster := { RosterUnit.emptied with rank := some 3, nActive := 3 } }
    s.started = true ∧ s.frame.filter.level = some false ∧ s.frame.takingPart = true ∧ s.ctl.state ≠ .listen
      ∧ s.frame.index = some 29 ∧ (s.exch.wordOpen = false ∨ 4 ≤ s.exch.samples.length) ∧ s.exch.closeDue = false
      ∧ ¬(s.ctl.state = .fault ∧ s.ctl.faultCause = some .duplicate) ∧ s.ctl.stateAfter = .active ∧ s.roster.rank = some 3 ∧ s.roster.nActive ≤ 3 := by decide

theorem test_witness_FrameZeroStartTakesTheDecision_check :
    let s := { { alignedLow .aside 29 642 with exch := ExchangeUnit.reset } with
      ctl := { controller .aside with decided := some .check } }
    s.started = true ∧ s.frame.filter.level = some false ∧ s.frame.takingPart = true ∧ s.ctl.state ≠ .listen
      ∧ s.frame.index = some 29 ∧ (s.exch.wordOpen = false ∨ 4 ≤ s.exch.samples.length) ∧ s.exch.closeDue = false
      ∧ ¬(s.ctl.state = .fault ∧ s.ctl.faultCause = some .duplicate)
      ∧ s.ctl.decided = some .check ∧ s.ctl.stateAfter ≠ .active ∧ s.gen.nActive = none := by decide

theorem test_witness_FrameZeroStartTakesTheDecision_announcing :
    let s := { { alignedLow .fault 29 899 with exch := ExchangeUnit.reset } with
      ctl := { controller .fault with faultCause := some .overtemp, announce := 2 } }
    let u := { s with frame := { s.frame with ownEnd := true, waitRun := 7 } }
    s.started = true ∧ s.frame.filter.level = some false ∧ s.frame.takingPart = true ∧ s.ctl.state ≠ .listen
      ∧ s.frame.index = some 29 ∧ (s.exch.wordOpen = false ∨ 4 ≤ s.exch.samples.length) ∧ s.exch.closeDue = false
      ∧ ¬(s.ctl.state = .fault ∧ s.ctl.faultCause = some .duplicate)
      ∧ s.ctl.decided = none ∧ s.ctl.stateAfter = .fault ∧ 0 < s.ctl.announce
      ∧ (after .frameStart s).ctl.haltWord = true
      ∧ u.frame.ownEnd = true ∧ u.port.config.lagMax.toNat < u.frame.counter - u.frameLen
      ∧ 8 ≤ u.frame.waitRun + 1 ∧ (after .frameStart u).flagSet .groupWait = true := by decide

theorem test_witness_FrameZeroStartTakesTheDecision_undecided :
    let s := { { alignedLow .warming 29 642 with exch := ExchangeUnit.reset } with
      gen := { PhaseGenerator.reset with nActive := some 2 } }
    s.started = true ∧ s.frame.filter.level = some false ∧ s.frame.takingPart = true ∧ s.ctl.state ≠ .listen
      ∧ s.frame.index = some 29 ∧ (s.exch.wordOpen = false ∨ 4 ≤ s.exch.samples.length) ∧ s.exch.closeDue = false
      ∧ ¬(s.ctl.state = .fault ∧ s.ctl.faultCause = some .duplicate)
      ∧ s.ctl.decided = none ∧ s.ctl.stateAfter ≠ .active ∧ s.gen.nActive ≠ none
      ∧ s.ctl.state = .warming := by decide

theorem test_witness_EarlyFrameStartCutsTheFrameShort :
    let s := alignedLow .shed 0 300; let u := alignedLow .active 29 300
    (s.started = true ∧ s.frame.filter.level = some false ∧ s.frame.takingPart = true ∧ s.ctl.state ≠ .listen
        ∧ s.frame.index = some 0 ∧ s.exch.closeDue = false ∧ s.exch.wordOpen = true ∧ s.exch.samples.length < 4
        ∧ (0 : Fin 30) ≠ 29)
      ∧ (u.started = true ∧ u.frame.filter.level = some false ∧ u.frame.takingPart = true ∧ u.ctl.state ≠ .listen
        ∧ u.frame.index = some 29 ∧ u.exch.closeDue = false ∧ u.exch.wordOpen = true
        ∧ u.exch.samples.length < 4) := by decide

theorem test_witness_EarlyFrameStartCutsTheFrameShort_duplicate :
    let s := { alignedLow .fault 3 300 with
      exch := { ExchangeUnit.reset with wordOpen := true, samples := [true, true, true, true] }
      ctl := { controller .fault with faultCause := some .duplicate } }
    s.started = true ∧ s.frame.filter.level = some false ∧ s.frame.takingPart = true ∧ s.ctl.state ≠ .listen
      ∧ s.frame.index = some 3 ∧ s.exch.closeDue = false ∧ (s.exch.wordOpen = false ∨ 4 ≤ s.exch.samples.length)
      ∧ s.ctl.state = .fault ∧ s.ctl.faultCause = some .duplicate := by decide

theorem test_witness_EarlyFrameStartCutsTheFrameShort_close_due :
    let s := { alignedLow .shed 29 326 with
      exch :=
        { ExchangeUnit.reset with wordOpen := true, closeDue := true, samples := [true, true, true, true] } }
    s.started = true ∧ s.frame.filter.level = some false ∧ s.frame.takingPart = true ∧ s.ctl.state ≠ .listen
      ∧ s.exch.wordOpen = true ∧ s.exch.closeDue = true ∧ 4 ≤ s.exch.samples.length := by decide

theorem test_witness_ListenEdgesRunTheTimers :
    let s := listening (some false) 5; let u := listening (some true) 31
    (s.ctl.state = .listen ∧ s.frame.takingPart = false ∧ s.frame.filter.level = some false)
      ∧ (u.ctl.state = .listen ∧ u.frame.takingPart = false ∧ u.frame.filter.level = some true
        ∧ u.frame.classed = .opened ∧ u.frame.counter < 32) := by decide

theorem test_witness_ListenEdgesRunTheTimers_classified :
    let s := listening (some true) 32
    let u := { s with frame := { s.frame with classed := .mark } }
    let v := { s with frame := { s.frame with classed := .noFrame } }
    (s.ctl.state = .listen ∧ s.frame.takingPart = false ∧ s.frame.filter.level = some true
        ∧ s.frame.classed = .opened ∧ s.frame.counter = 32)
      ∧ (u.ctl.state = .listen ∧ u.frame.takingPart = false ∧ u.frame.filter.level = some true
        ∧ u.frame.classed = .mark)
      ∧ (v.ctl.state = .listen ∧ v.frame.takingPart = false ∧ v.frame.filter.level = some true
        ∧ v.frame.classed = .noFrame) := by decide

theorem test_witness_ListenEdgesRunTheTimers_above_32 :
    let s := listening (some true) 700
    let u := { listening (some true) 32 with
      frame := { (listening (some true) 32).frame with armed := true } }
    (s.ctl.state = .listen ∧ s.frame.takingPart = false ∧ s.frame.filter.level = some true
        ∧ s.frame.classed = .opened ∧ 32 ≤ s.frame.counter ∧ s.frame.armed = false)
      ∧ (u.ctl.state = .listen ∧ u.frame.takingPart = false ∧ u.frame.filter.level = some true
        ∧ u.frame.classed = .opened ∧ 32 ≤ u.frame.counter ∧ u.frame.armed = true) := by decide

theorem test_witness_ListenEdgesRunTheTimers_after_announcing :
    let s := { ended .overcurrent 5 with frame := { FrameUnit.reset with filter := ⟨2, false, some false⟩ } }
    let u := { ended .overcurrent 5 with frame := { FrameUnit.reset with filter := ⟨2, true, some true⟩ } }
    (s.ctl.state = .fault ∧ s.frame.takingPart = false ∧ s.frame.filter.level = some false)
      ∧ (u.ctl.state = .fault ∧ u.frame.takingPart = false ∧ u.frame.filter.level = some true) := by decide

theorem test_witness_FallsAndMarksClassifyTheFrame_as_expected :
    let s := aligned .shed 1 31; let u := aligned .shed 0 32
    (s.started = true ∧ s.frame.takingPart = true ∧ s.ctl.state ≠ .listen ∧ s.frame.filter.level = some true
        ∧ s.frame.index = some 1 ∧ s.frame.classed = .opened ∧ s.frame.checked = true ∧ s.frame.counter < 32)
      ∧ (u.started = true ∧ u.frame.takingPart = true ∧ u.ctl.state ≠ .listen ∧ u.frame.filter.level = some true
        ∧ u.frame.index = some 0 ∧ u.frame.classed = .opened ∧ u.frame.checked = true ∧ u.frame.counter = 32) := by decide

theorem test_witness_FallsAndMarksClassifyTheFrame_errors :
    let s := aligned .shed 0 31; let u := aligned .fault 29 32
    (s.started = true ∧ s.frame.takingPart = true ∧ s.ctl.state ≠ .listen ∧ s.frame.filter.level = some true
        ∧ s.frame.index = some 0 ∧ s.frame.classed = .opened ∧ s.frame.checked = true ∧ s.frame.markLast = false ∧ s.frame.counter < 32)
      ∧ (u.started = true ∧ u.frame.takingPart = true ∧ u.ctl.state ≠ .listen ∧ u.frame.filter.level = some true
        ∧ u.frame.index = some 29 ∧ u.frame.classed = .opened ∧ u.frame.checked = true ∧ u.ctl.state = .fault ∧ u.frame.counter = 32) := by decide

theorem test_witness_FallsAndMarksClassifyTheFrame_after_a_mark :
    let u := aligned .shed 0 32
    let s := { u with frame := { u.frame with classed := .mark, counter := 60 } }
    (s.started = true ∧ s.frame.takingPart = true ∧ s.ctl.state ≠ .listen ∧ s.frame.filter.level = some true
        ∧ s.frame.classed = .mark)
      ∧ (u.started = true ∧ u.frame.takingPart = true ∧ u.ctl.state ≠ .listen ∧ u.frame.filter.level = some true
        ∧ u.frame.classed = .opened ∧ u.frame.counter = 32) := by decide

theorem test_witness_FallsAndMarksClassifyTheFrame_rejoins :
    let s := { aligned .shed 0 31 with frame := { (aligned .shed 0 31).frame with markLast := true } }
    let u := { aligned .shed 1 32 with frame := { (aligned .shed 1 32).frame with markLast := true } }
    (s.started = true ∧ s.frame.takingPart = true ∧ s.ctl.state ≠ .listen ∧ s.frame.filter.level = some true
        ∧ s.frame.index = some 0 ∧ s.frame.classed = .opened ∧ s.frame.checked = true ∧ s.frame.markLast = true ∧ s.ctl.state ≠ .fault ∧ s.frame.counter < 32)
      ∧ (u.started = true ∧ u.frame.takingPart = true ∧ u.ctl.state ≠ .listen ∧ u.frame.filter.level = some true
        ∧ u.frame.index = some 1 ∧ u.frame.classed = .opened ∧ u.frame.checked = true ∧ u.frame.markLast = true ∧ u.ctl.state ≠ .fault ∧ u.frame.counter = 32) := by decide

theorem test_witness_StuckLeavesTheBarrier :
    let s := { alignedLow .shed 3 3200 with frame := { (alignedLow .shed 3 3200).frame with stuckTimer := ⟨true, 2560⟩ } }
    let u := { alignedLow .fault 3 3200 with frame := { (alignedLow .fault 3 3200).frame with stuckTimer := ⟨true, 2560⟩ } }
    (s.frame.takingPart = true ∧ s.frame.stuckTimer.running = true ∧ 4 * s.frameLen ≤ s.frame.stuckTimer.count
        ∧ s.ctl.state ≠ .fault)
      ∧ (u.frame.takingPart = true ∧ u.frame.stuckTimer.running = true ∧ 4 * u.frameLen ≤ u.frame.stuckTimer.count
        ∧ u.ctl.state = .fault) := by decide

theorem test_witness_ListenEdgesRunTheTimers_declaring :
    let s := { listening (some false) 0 with
      frame := { (listening (some false) 0).frame with stuckTimer := ⟨true, 2560⟩ } }
    let u := listening (some false) 0; let v := listening none 2
    (s.ctl.state = .listen ∧ s.frame.stuckTimer.running = true ∧ 4 * s.frameLen ≤ s.frame.stuckTimer.count)
      ∧ (u.ctl.state = .listen ∧ u.frame.stuckTimer.running = false)
      ∧ (v.ctl.state = .listen ∧ v.frame.filter.level = none) := by decide

theorem test_witness_DrivePointPresentsHaltAndCensus :
    let s := { aligned .shed 29 56 with exch := ExchangeUnit.reset }
    let u := aligned .fault 0 56; let v := aligned .shed 16 56
    (s.frame.takingPart = true ∧ s.frame.index = some 29 ∧ s.frame.counter = 56 ∧ s.exch.driven = false ∧ s.exch.wordOpen = false)
      ∧ (u.frame.takingPart = true ∧ u.frame.index = some 0 ∧ u.frame.counter = 56 ∧ u.exch.driven = false ∧ u.exch.wordOpen = true ∧ (0 : Fin 30).val < 17)
      ∧ (v.frame.takingPart = true ∧ v.frame.index = some 16 ∧ v.frame.counter = 56 ∧ v.exch.driven = false ∧ v.exch.wordOpen = true ∧ (16 : Fin 30).val < 17) := by decide

theorem test_witness_DrivePointPresentsHaltAndCensus_phase :
    let s := aligned .hold 17 56; let u := aligned .check 17 56; let v := aligned .shed 18 56; let x := aligned .shed 19 56
    (s.frame.takingPart = true ∧ s.frame.index = some 17 ∧ s.frame.counter = 56 ∧ s.exch.driven = false ∧ s.exch.wordOpen = true ∧ s.ctl.state.isMember = true)
      ∧ (u.frame.takingPart = true ∧ u.frame.index = some 17 ∧ u.frame.counter = 56 ∧ u.exch.driven = false ∧ u.exch.wordOpen = true ∧ u.ctl.state.isMember = false ∧ u.exch.phase.contending = false)
      ∧ (v.frame.takingPart = true ∧ v.frame.index = some 18 ∧ v.frame.counter = 56 ∧ v.exch.driven = false ∧ v.exch.wordOpen = true ∧ 17 < (18 : Fin 30).val ∧ (18 : Fin 30).val < 20)
      ∧ (x.frame.takingPart = true ∧ x.frame.index = some 19 ∧ x.frame.counter = 56 ∧ x.exch.driven = false ∧ x.exch.wordOpen = true ∧ 17 < (19 : Fin 30).val ∧ (19 : Fin 30).val < 20) := by decide

theorem test_witness_DrivePointPresentsHaltAndCensus_current :
    let s := { aligned .active 20 56 with meas := { MeasurementUnit.reset with shareValid := true } }
    let u := aligned .active 20 56; let v := aligned .active 21 56; let x := aligned .active 29 56
    (s.frame.takingPart = true ∧ s.frame.index = some 20 ∧ s.frame.counter = 56 ∧ s.exch.driven = false ∧ s.exch.wordOpen = true ∧ (s.ctl.state == .active && s.meas.shareValid) = true)
      ∧ (u.frame.takingPart = true ∧ u.frame.index = some 20 ∧ u.frame.counter = 56 ∧ u.exch.driven = false ∧ u.exch.wordOpen = true ∧ (u.ctl.state == .active && u.meas.shareValid) = false
        ∧ u.exch.current.contending = false)
      ∧ (v.frame.takingPart = true ∧ v.frame.index = some 21 ∧ v.frame.counter = 56 ∧ v.exch.driven = false ∧ v.exch.wordOpen = true ∧ 20 < (21 : Fin 30).val)
      ∧ (x.frame.takingPart = true ∧ x.frame.index = some 29 ∧ x.frame.counter = 56 ∧ x.exch.driven = false ∧ x.exch.wordOpen = true ∧ 20 < (29 : Fin 30).val) := by decide

theorem test_witness_BitTimeJudgesTheSamples :
    let s := atBitTime .shed 1 true; let u := atBitTime .shed 15 false; let v := atBitTime .shed 2 true
    let x := atBitTime .shed 16 true
    (s.frame.takingPart = true ∧ s.exch.wordOpen = true ∧ s.frame.index = some 1 ∧ s.frame.counter = s.sampleAt + 6
        ∧ s.exch.samples = [true, true, true] ∧ (1 : Fin 30).val < 17 ∧ (1 : Fin 30).val % 2 = 1)
      ∧ (u.frame.takingPart = true ∧ u.exch.wordOpen = true ∧ u.frame.index = some 15 ∧ u.frame.counter = u.sampleAt + 6
        ∧ u.exch.samples = [false, false, false] ∧ (15 : Fin 30).val < 17 ∧ (15 : Fin 30).val % 2 = 1)
      ∧ (v.frame.takingPart = true ∧ v.exch.wordOpen = true ∧ v.frame.index = some 2 ∧ v.frame.counter = v.sampleAt + 6
        ∧ v.exch.samples = [true, true, true] ∧ 0 < (2 : Fin 30).val ∧ (2 : Fin 30).val < 17 ∧ (2 : Fin 30).val % 2 = 0
        ∧ (2 : Fin 30).val ≠ 2 + 2 * v.code)
      ∧ (x.frame.takingPart = true ∧ x.exch.wordOpen = true ∧ x.frame.index = some 16 ∧ x.frame.counter = x.sampleAt + 6
        ∧ x.exch.samples = [true, true, true] ∧ 0 < (16 : Fin 30).val ∧ (16 : Fin 30).val < 17 ∧ (16 : Fin 30).val % 2 = 0
        ∧ (16 : Fin 30).val ≠ 2 + 2 * x.code) := by decide

theorem test_witness_BitTimeJudgesTheSamples_own_check_frame :
    let s := atBitTime .shed 8 true
    s.frame.takingPart = true ∧ s.exch.wordOpen = true ∧ s.frame.index = some 8 ∧ s.frame.counter = s.sampleAt + 6
        ∧ s.exch.samples = [true, true, true] ∧ (8 : Fin 30).val % 2 = 0 ∧ (8 : Fin 30).val = 2 + 2 * s.code
      ∧ s.roster.sentCheck ≠ some ⟨false, true⟩ := by decide

theorem test_witness_BitTimeJudgesTheSamples_contention :
    let s := atBitTime .shed 17 true; let u := atBitTime .shed 19 true; let v := atBitTime .active 20 true
    let x := atBitTime .active 29 true
    (s.frame.takingPart = true ∧ s.exch.wordOpen = true ∧ s.frame.index = some 17 ∧ s.frame.counter = s.sampleAt + 6
        ∧ s.exch.samples = [true, true, true] ∧ 17 ≤ (17 : Fin 30).val ∧ (17 : Fin 30).val < 20)
      ∧ (u.frame.takingPart = true ∧ u.exch.wordOpen = true ∧ u.frame.index = some 19 ∧ u.frame.counter = u.sampleAt + 6
        ∧ u.exch.samples = [true, true, true] ∧ 17 ≤ (19 : Fin 30).val ∧ (19 : Fin 30).val < 20)
      ∧ (v.frame.takingPart = true ∧ v.exch.wordOpen = true ∧ v.frame.index = some 20 ∧ v.frame.counter = v.sampleAt + 6
        ∧ v.exch.samples = [true, true, true] ∧ 20 ≤ (20 : Fin 30).val)
      ∧ (x.frame.takingPart = true ∧ x.exch.wordOpen = true ∧ x.frame.index = some 29 ∧ x.frame.counter = x.sampleAt + 6
        ∧ x.exch.samples = [true, true, true] ∧ 20 ≤ (29 : Fin 30).val) := by decide

theorem test_witness_BitTimeJudgesTheSamples_leaver :
    let s := atBitTime .aside 19 true; let u := atBitTime .hold 29 true
    (s.frame.takingPart = true ∧ s.exch.wordOpen = true ∧ s.frame.index = some 19 ∧ s.frame.counter = s.sampleAt + 6
        ∧ s.exch.samples = [true, true, true] ∧ s.ctl.state.isMember = false)
      ∧ (u.frame.takingPart = true ∧ u.exch.wordOpen = true ∧ u.frame.index = some 29 ∧ u.frame.counter = u.sampleAt + 6
        ∧ u.exch.samples = [true, true, true] ∧ u.ctl.state ≠ .active) := by decide

theorem test_witness_HaltReadSendsMembersToHold :
    let s := atBitTime .active 0 true; let u := atBitTime .parked 0 true; let v := atBitTime .hold 0 true
    let x := atBitTime .aside 0 true; let y := atBitTime .shed 0 false
    (s.frame.takingPart = true ∧ s.exch.wordOpen = true ∧ s.frame.index = some 0 ∧ s.frame.counter = s.sampleAt + 6
        ∧ s.exch.samples = [true, true, true] ∧ s.ctl.state = .active)
      ∧ (u.frame.takingPart = true ∧ u.exch.wordOpen = true ∧ u.frame.index = some 0 ∧ u.frame.counter = u.sampleAt + 6
        ∧ u.exch.samples = [true, true, true] ∧ u.ctl.state = .parked)
      ∧ (v.frame.takingPart = true ∧ v.exch.wordOpen = true ∧ v.frame.index = some 0 ∧ v.frame.counter = v.sampleAt + 6
        ∧ v.exch.samples = [true, true, true] ∧ v.ctl.state = .hold)
      ∧ (x.frame.takingPart = true ∧ x.exch.wordOpen = true ∧ x.frame.index = some 0 ∧ x.frame.counter = x.sampleAt + 6
        ∧ x.exch.samples = [true, true, true] ∧ x.ctl.state.isMember = false)
      ∧ (y.frame.takingPart = true ∧ y.exch.wordOpen = true ∧ y.frame.index = some 0 ∧ y.frame.counter = y.sampleAt + 6
        ∧ y.exch.samples = [false, false, false] ∧ y.ctl.state = .shed) := by decide

theorem test_witness_ReadOneAgainstASentZeroIsDuplicate :
    let s := { atBitTime .shed 8 true with roster := { RosterUnit.emptied with sentCheck := some ⟨false, true⟩ } }
    s.frame.takingPart = true ∧ s.exch.wordOpen = true ∧ s.frame.index = some 8 ∧ s.frame.counter = s.sampleAt + 6
        ∧ s.exch.samples = [true, true, true] ∧ (8 : Fin 30).val = 2 + 2 * s.code ∧ s.ctl.state.isMember = true
      ∧ s.roster.sentCheck = some ⟨false, true⟩ := by decide

theorem test_witness_WordCloseMakesTheRecord :
    let s := { closing .shed true with meas := { MeasurementUnit.reset with tally := 2 } }
    let u := { closing .shed false with meas := { MeasurementUnit.reset with tally := 3, queue := [.vsns] } }
    (s.frame.takingPart = true ∧ s.exch.wordOpen = true ∧ s.exch.closeDue = true ∧ s.exch.damaged = true ∧ s.meas.tally + 1 < s.port.config.hkWords.toNat ∧ s.ctl.state ≠ .check)
      ∧ (u.frame.takingPart = true ∧ u.exch.wordOpen = true ∧ u.exch.closeDue = true ∧ u.port.config.hkWords.toNat ≤ u.meas.tally + 1 ∧ Channel.vsns ∈ u.meas.queue) := by decide

theorem test_witness_WordCloseMakesTheRecord_eight_held :
    let r : WordRecord := ⟨1, true, .zero, none, none, none, none, none, 0, .shed⟩
    let s := { closing .shed false with
      port :=
        { PortUnit.reset with
          history := List.replicate 8 r, txn := some ⟨.readHistory, .accepted, 1, [], [], 0, 8⟩ }
      meas := { MeasurementUnit.reset with tally := 3 } }
    s.frame.takingPart = true ∧ s.exch.wordOpen = true ∧ s.exch.closeDue = true ∧ 8 ≤ s.port.history.length
      ∧ s.port.config.hkWords.toNat ≤ s.meas.tally + 1 ∧ s.meas.conv = none
      ∧ (after .wordClose s).port.txn.map Transaction.returned = some 7 := by decide

theorem test_witness_WordCloseFiltersTheCensus :
    let s := { closing .shed false with
      exch := { (closing .shed false).exch with presence := [.zero, .one] }
      roster := { RosterUnit.emptied with candidate := 2, agree := 1 } }
    let u := closing .shed true; let v := closing .shed false
    (s.frame.takingPart = true ∧ s.exch.wordOpen = true ∧ s.exch.closeDue = true ∧ s.ctl.state ≠ .aside ∧ s.exch.damaged = false ∧ presenceMap s.exch.presence = s.roster.candidate
        ∧ min s.port.config.rosterDepth.toNat (s.roster.agree + 1) = s.port.config.rosterDepth.toNat
        ∧ presenceMap s.exch.presence ≠ s.roster.accepted)
      ∧ (u.frame.takingPart = true ∧ u.exch.wordOpen = true ∧ u.exch.closeDue = true ∧ u.ctl.state ≠ .aside ∧ u.exch.damaged = true)
      ∧ (v.frame.takingPart = true ∧ v.exch.wordOpen = true ∧ v.exch.closeDue = true ∧ v.ctl.state ≠ .aside ∧ v.exch.damaged = false
        ∧ presenceMap v.exch.presence = v.roster.accepted) := by decide

theorem test_witness_WordCloseFiltersTheCensus_in_aside :
    let s := { closing .aside false with ctl := { Controller.reset with state := .aside } }
    s.frame.takingPart = true ∧ s.exch.wordOpen = true ∧ s.exch.closeDue = true ∧ s.ctl.causes.isEmpty = false
      ∧ s.exch.damaged = false := by decide

theorem test_witness_WordCloseTestsTheSlotAndTheCauses_in_check :
    let s := closing .check true; let v := closing .check false
    let u := { closing .check false with
      exch := { (closing .check false).exch with presence := [.zero, .zero, .zero, .one] } }
    (s.frame.takingPart = true ∧ s.exch.wordOpen = true ∧ s.exch.closeDue = true ∧ s.ctl.state = .check ∧ s.exch.damaged = true)
      ∧ (u.frame.takingPart = true ∧ u.exch.wordOpen = true ∧ u.exch.closeDue = true ∧ u.ctl.state = .check ∧ u.exch.damaged = false
        ∧ hasCode (presenceMap u.exch.presence) u.code = true)
      ∧ (v.frame.takingPart = true ∧ v.exch.wordOpen = true ∧ v.exch.closeDue = true ∧ v.ctl.state = .check ∧ v.exch.damaged = false
        ∧ hasCode (presenceMap v.exch.presence) v.code = false) := by decide

theorem test_witness_WordCloseTestsTheSlotAndTheCauses_in_aside :
    let s := closing .aside false; let v := closing .fault false
    let u := { closing .aside false with ctl := { Controller.reset with state := .aside } }
    (s.frame.takingPart = true ∧ s.exch.wordOpen = true ∧ s.exch.closeDue = true ∧ s.ctl.state = .aside ∧ s.ctl.causes.isEmpty = true)
      ∧ (u.frame.takingPart = true ∧ u.exch.wordOpen = true ∧ u.exch.closeDue = true ∧ u.ctl.state = .aside ∧ u.ctl.causes.isEmpty = false)
      ∧ (v.frame.takingPart = true ∧ v.exch.wordOpen = true ∧ v.exch.closeDue = true ∧ v.ctl.state = .fault) := by decide

theorem test_witness_WordCloseDecidesTheMembers :
    ((closing .active true).frame.takingPart = true ∧ (closing .active true).exch.wordOpen = true ∧ (closing .active true).exch.closeDue = true
        ∧ (closing .active true).ctl.state.isMember = true)
      ∧ ((closing .shed true).frame.takingPart = true ∧ (closing .shed true).exch.wordOpen = true ∧ (closing .shed true).exch.closeDue = true
        ∧ (closing .shed true).ctl.state.isMember = true)
      ∧ ((closing .parked true).frame.takingPart = true ∧ (closing .parked true).exch.wordOpen = true ∧ (closing .parked true).exch.closeDue = true
        ∧ (closing .parked true).ctl.state.isMember = true)
      ∧ ((closing .warming true).frame.takingPart = true ∧ (closing .warming true).exch.wordOpen = true ∧ (closing .warming true).exch.closeDue = true
        ∧ (closing .warming true).ctl.state.isMember = true)
      ∧ ((closing .hold true).frame.takingPart = true ∧ (closing .hold true).exch.wordOpen = true ∧ (closing .hold true).exch.closeDue = true
        ∧ (closing .hold true).ctl.state.isMember = true) := by decide

theorem test_witness_WordCloseDecidesTheMembers_in_the_set :
    let s := { closing .shed true with roster := { RosterUnit.emptied with accepted := 8, rank := some 0, nReq := 1 } }
    s.frame.takingPart = true ∧ s.exch.wordOpen = true ∧ s.exch.closeDue = true ∧ s.ctl.state = .shed ∧ (after .wordClose s).roster.inSet = true := by decide

theorem test_witness_WordCloseUpdatesTheRequest :
    let s := closing .shed false; let u := { closing .aside false with dmd := DemandMonitor.reset }
    (s.frame.takingPart = true ∧ s.exch.wordOpen = true ∧ s.exch.closeDue = true ∧ s.dmd.valid = true) ∧ (u.frame.takingPart = true ∧ u.exch.wordOpen = true ∧ u.exch.closeDue = true ∧ u.dmd.valid = false) := by decide

theorem test_witness_WordCloseTrimsTheShare :
    let s := { closing .active false with
      exch := { (closing .active false).exch with current := ⟨true, true, some 512, []⟩ }
      meas := { MeasurementUnit.reset with trim := 10 } }
    let u := closing .active true
    (s.frame.takingPart = true ∧ s.exch.wordOpen = true ∧ s.exch.closeDue = true ∧ s.ctl.state = .active ∧ s.exch.damaged = false ∧ s.exch.current.contended = true
        ∧ s.exch.current.value = some 512)
      ∧ (u.frame.takingPart = true ∧ u.exch.wordOpen = true ∧ u.exch.closeDue = true ∧ u.ctl.state = .active ∧ u.exch.damaged = true) := by decide

theorem test_witness_WordCloseTrimsTheShare_at_the_limit :
    let s := { closing .active true with meas := { MeasurementUnit.reset with trim := 64, limitRun := 7 } }
    let u := { closing .active true with meas := { MeasurementUnit.reset with trim := 64, limitRun := 6 } }
    (s.frame.takingPart = true ∧ s.exch.wordOpen = true ∧ s.exch.closeDue = true ∧ s.ctl.state = .active ∧ (after .wordClose s).meas.trim = s.port.config.trimLimit.toNat
        ∧ s.meas.limitRun = 7)
      ∧ (u.frame.takingPart = true ∧ u.exch.wordOpen = true ∧ u.exch.closeDue = true ∧ u.ctl.state = .active ∧ (after .wordClose u).meas.trim = u.port.config.trimLimit.toNat
        ∧ u.meas.limitRun < 7) := by decide

theorem test_witness_WordCloseTrimsTheShare_outside_active :
    let s := closing .shed false; let u := { closing .check false with meas := MeasurementUnit.reset }
    (s.frame.takingPart = true ∧ s.exch.wordOpen = true ∧ s.exch.closeDue = true ∧ s.ctl.state ≠ .active
        ∧ s.ctl.state ≠ .check)
      ∧ (u.frame.takingPart = true ∧ u.exch.wordOpen = true ∧ u.exch.closeDue = true ∧ u.ctl.state = .check
        ∧ u.meas.trim = 0 ∧ u.meas.limitRun = 0 ∧ u.meas.wholeWord = false) := by decide

theorem test_witness_WarmUpCompleteEndsTheWarmUp :
    let s := { aligned .warming 5 0 with
      ctl := { controller .warming with warmCount := 64 }
      roster := { RosterUnit.emptied with inSet := true } }
    let u := { aligned .warming 0 0 with
      ctl := { controller .warming with warmCount := 64 }
      roster := { RosterUnit.emptied with inSet := true } }
    let v := { aligned .warming 5 0 with
      ctl := { controller .warming with warmCount := 64 }
      roster := { RosterUnit.emptied with inSet := false } }
    (s.ctl.state = .warming ∧ s.frame.counter = 0 ∧ s.port.config.warmFrames.toNat ≤ s.ctl.warmCount ∧ s.roster.inSet = true ∧ s.frame.index ≠ some 0)
      ∧ (u.ctl.state = .warming ∧ u.frame.counter = 0 ∧ u.port.config.warmFrames.toNat ≤ u.ctl.warmCount ∧ u.roster.inSet = true ∧ u.frame.index = some 0)
      ∧ (v.ctl.state = .warming ∧ v.frame.counter = 0 ∧ v.port.config.warmFrames.toNat ≤ v.ctl.warmCount ∧ v.roster.inSet = false) := by decide

theorem test_witness_GateEdgesKeepTheDeadTime_lead_point :
    let s := { aligned .active 3 0 with gen := { PhaseGenerator.reset with onPoint := some 12, lg := true } }
    let u := { aligned .active 3 639 with gen := { PhaseGenerator.reset with onPoint := some 11, lg := true } }
    let v := { aligned .active 3 628 with gen := { PhaseGenerator.reset with onPoint := some 0, lg := true } }
    (s.gen.onPoint = some (12 : Nat) ∧ s.ctl.state = .active ∧ s.gen.leadTaken = false
        ∧ s.frame.counter = (if s.dead ≤ (12 : Nat) then (12 : Nat) - s.dead else s.frameLen - s.dead + 12))
      ∧ (u.gen.onPoint = some (11 : Nat) ∧ u.ctl.state = .active ∧ u.gen.leadTaken = false
        ∧ u.frame.counter = (if u.dead ≤ (11 : Nat) then (11 : Nat) - u.dead else u.frameLen - u.dead + 11))
      ∧ (v.gen.onPoint = some (0 : Nat) ∧ v.ctl.state = .active ∧ v.gen.leadTaken = false
        ∧ v.frame.counter = (if v.dead ≤ (0 : Nat) then (0 : Nat) - v.dead else v.frameLen - v.dead + 0)) := by decide

theorem test_witness_GateEdgesKeepTheDeadTime :
    let s := pulsing .active 100 0; let u := aligned .active 3 400
    (s.gen.inFlight = true ∧ s.gen.hg = true ∧ s.gen.remaining = 0)
      ∧ (u.ctl.state = .active ∧ u.gen.deadTimer = none ∧ u.gen.leadWindow = false ∧ u.gen.hg = false
        ∧ u.gen.lg = false) := by decide

theorem test_witness_OnPointStartsThePulse :
    let s := atOnPoint 13
    s.gen.onPoint = some 213 ∧ s.ctl.state = .active ∧ s.gen.onTaken = false ∧ s.frame.counter = 213
      ∧ 8 ≤ min (min s.dutyMax (s.dmd.lastGood.toNat * s.frameLen / 1024 + s.meas.trim)) s.gen.ramp
      ∧ s.gen.hg = false ∧ s.gen.lg = false ∧ s.gen.deadTimer = none ∧ s.gen.leadWindow = true ∧ s.gen.oci.level ≠ some true := by decide

theorem test_witness_OnPointStartsThePulse_without_a_pulse :
    let s := atOnPoint 12
    let u := { atOnPoint 512 with gen := { (atOnPoint 512).gen with oci := ⟨2, true, some true⟩, ocRun := 2 } }
    (s.gen.onPoint = some 213 ∧ s.ctl.state = .active ∧ s.gen.onTaken = false ∧ s.frame.counter = 213
        ∧ min (min s.dutyMax (s.dmd.lastGood.toNat * s.frameLen / 1024 + s.meas.trim)) s.gen.ramp < 8)
      ∧ (u.gen.onPoint = some 213 ∧ u.ctl.state = .active ∧ u.gen.onTaken = false ∧ u.frame.counter = 213
        ∧ 8 ≤ min (min u.dutyMax (u.dmd.lastGood.toNat * u.frameLen / 1024 + u.meas.trim)) u.gen.ramp
        ∧ u.gen.hg = false ∧ u.gen.lg = false ∧ u.gen.deadTimer = none ∧ u.gen.leadWindow = true ∧ u.gen.oci.level = some true
        ∧ u.gen.ocRun + 1 < u.port.config.ocRun.toNat) := by decide

theorem test_witness_OnPointStartsThePulse_without_a_lead_point :
    let s := { atOnPoint 512 with gen := { (atOnPoint 512).gen with leadWindow := false } }
    s.gen.onPoint = some 213 ∧ s.ctl.state = .active ∧ s.gen.onTaken = false ∧ s.frame.counter = 213
      ∧ s.gen.leadWindow = false := by decide

theorem test_witness_OciAssertCutsThePulse :
    let s := { pulsing .active 100 60 with gen := { (pulsing .active 100 60).gen with inFlight := false, hg := false } }
    let u := pulsing .shed 100 60
    let v := { pulsing .active 100 60 with gen := { (pulsing .active 100 60).gen with ocRun := 2 } }
    (s.started = true ∧ s.gen.oci.level = some false ∧ s.gen.inFlight = false)
      ∧ (u.started = true ∧ u.gen.oci.level = some false ∧ u.gen.inFlight = true ∧ u.ctl.state ≠ .active)
      ∧ (v.started = true ∧ v.gen.oci.level = some false ∧ v.gen.inFlight = true ∧ v.ctl.state = .active
        ∧ v.gen.ocRun + 1 < v.port.config.ocRun.toNat) := by decide

theorem test_witness_OciAssertCutsThePulse_nothing_owed :
    let s := { pulsing .fault 100 60 with gen := { (pulsing .fault 100 60).gen with inFlight := false, hg := false } }
    let u := { pulsing .aside 100 60 with gen := { s.gen with owedCut := true } }
    (s.started = true ∧ s.gen.oci.level = some false ∧ s.gen.inFlight = false ∧ s.gen.owedCut = false)
      ∧ (u.started = true ∧ u.gen.oci.level = some false ∧ u.gen.inFlight = false ∧ u.ctl.state ≠ .fault) := by decide

theorem test_witness_TruncatedRunDeclaresOvercurrent :
    let s := { pulsing .active 100 60 with gen := { (pulsing .active 100 60).gen with ocRun := 3 } }
    let u := { atOnPoint 512 with gen := { (atOnPoint 512).gen with oci := ⟨2, true, some true⟩, ocRun := 3 } }
    (s.ctl.state = .active ∧ s.port.config.ocRun.toNat ≤ s.gen.ocRun + 1 ∧ s.gen.oci.level = some false
        ∧ s.gen.inFlight = true)
      ∧ (u.ctl.state = .active ∧ u.port.config.ocRun.toNat ≤ u.gen.ocRun + 1
        ∧ u.gen.onPoint = some u.frame.counter ∧ u.gen.onTaken = false
        ∧ 8 ≤ min (min u.dutyMax (u.dmd.lastGood.toNat * u.frameLen / 1024 + u.meas.trim)) u.gen.ramp
        ∧ u.gen.hg = false ∧ u.gen.lg = false ∧ u.gen.deadTimer = none ∧ u.gen.leadWindow = true ∧ u.gen.oci.level = some true) := by decide

theorem test_witness_TruncatedRunDeclaresOvercurrent_cut_owed :
    let s :=
      { converting .active .tsns [.tsns] with
        gen := { (pulsing .active 100 60).gen with ocRun := 3 } }
    let u := talking { pulsing .active 100 60 with gen := s.gen } .aside .accepted 1
    (∃ t, exec (.conversionComplete 900) s = .next t ∧ t.ctl.state = .fault)
      ∧ (∃ t, exec (.aside (.later 0)) u = .next t ∧ t.ctl.state = .aside)
      ∧ (s.ctl.state = .active ∧ s.gen.inFlight = true ∧ s.port.config.ocRun.toNat ≤ s.gen.ocRun + 1
        ∧ s.gen.oci.level = some false)
      ∧ (u.ctl.state = .active ∧ u.gen.inFlight = true ∧ u.port.config.ocRun.toNat ≤ u.gen.ocRun + 1
        ∧ u.gen.oci.level = some false) :=
  ⟨⟨_, rfl, by decide⟩, ⟨_, rfl, by decide⟩, by decide, by decide⟩

theorem test_witness_TruncatedRunDeclaresOvercurrent_point_owed :
    let g := { PhaseGenerator.reset with owedPoint := true }
    let s := { aligned .fault 3 213 with gen := g }
    let v := { aligned .fault 3 213 with gen := { g with oci := ⟨2, true, some true⟩ } }
    (s.gen.owedPoint = true ∧ s.ctl.state = .fault ∧ s.gen.oci.level ≠ some true)
      ∧ (v.gen.owedPoint = true ∧ v.ctl.state = .fault ∧ v.gen.oci.level = some true) := by decide

theorem test_witness_TruncatedRunDeclaresOvercurrent_point_of_the_instant :
    let g := { (atOnPoint 512).gen with oci := ⟨2, true, some true⟩, ocRun := 3 }
    let s :=
      { atOnPoint 512 with
        gen := g
        meas := { MeasurementUnit.reset with conv := some ⟨.tsns, 40, 0, false⟩, queue := [.tsns] } }
    let u := talking s .aside .accepted 1
    (∃ t, exec (.conversionComplete 900) s = .next t ∧ t.ctl.state = .fault)
      ∧ (∃ t, exec (.aside (.later 0)) u = .next t ∧ t.ctl.state = .aside)
      ∧ (s.ctl.state = .active ∧ s.port.config.ocRun.toNat ≤ s.gen.ocRun + 1
        ∧ s.gen.onPoint = some s.frame.counter ∧ s.gen.onTaken = false
        ∧ 8 ≤ min (min s.dutyMax (s.dmd.lastGood.toNat * s.frameLen / 1024 + s.meas.trim)) s.gen.ramp
        ∧ s.gen.hg = false ∧ s.gen.lg = false ∧ s.gen.deadTimer = none ∧ s.gen.leadWindow = true ∧ s.gen.oci.level = some true)
      ∧ (u.ctl.state = .active ∧ u.port.config.ocRun.toNat ≤ u.gen.ocRun + 1
        ∧ u.gen.onPoint = some u.frame.counter ∧ u.gen.onTaken = false
        ∧ 8 ≤ min (min u.dutyMax (u.dmd.lastGood.toNat * u.frameLen / 1024 + u.meas.trim)) u.gen.ramp
        ∧ u.gen.hg = false ∧ u.gen.lg = false ∧ u.gen.deadTimer = none ∧ u.gen.leadWindow = true ∧ u.gen.oci.level = some true) :=
  ⟨⟨_, rfl, by decide⟩, ⟨_, rfl, by decide⟩, by decide, by decide⟩

theorem test_witness_CurrentRequestDuringACurrentConversionIsDropped :
    let s := { pulsing .active 16 8 with meas := { MeasurementUnit.reset with conv := some ⟨.isns, 39, 0, false⟩ } }
    s.gen.inFlight = true ∧ s.gen.triggered = false ∧ s.gen.remaining + s.gen.pulseDuty / 2 = s.gen.pulseDuty
      ∧ 16 ≤ s.gen.pulseDuty ∧ s.ctl.state = .active ∧ s.meas.conv = some ⟨.isns, 39, 0, false⟩ := by decide

theorem test_witness_CurrentTriggerAsksTheConverter :
    let s := pulsing .active 16 8; let u := { pulsing .active 17 9 with meas := { MeasurementUnit.reset with conv := some ⟨.isns, 7, 0, false⟩ } }
    let v := pulsing .active 15 8; let x := pulsing .shed 16 8
    (s.gen.inFlight = true ∧ s.gen.triggered = false ∧ s.gen.remaining + s.gen.pulseDuty / 2 = s.gen.pulseDuty ∧ 16 ≤ s.gen.pulseDuty ∧ s.ctl.state = .active ∧ s.meas.conv = none)
      ∧ (u.gen.inFlight = true ∧ u.gen.triggered = false ∧ u.gen.remaining + u.gen.pulseDuty / 2 = u.gen.pulseDuty ∧ 16 ≤ u.gen.pulseDuty ∧ u.ctl.state = .active
        ∧ u.meas.conv = some ⟨.isns, 7, 0, false⟩)
      ∧ (v.gen.inFlight = true ∧ v.gen.triggered = false ∧ v.gen.remaining + v.gen.pulseDuty / 2 = v.gen.pulseDuty ∧ ¬(16 ≤ v.gen.pulseDuty ∧ v.ctl.state = .active))
      ∧ (x.gen.inFlight = true ∧ x.gen.triggered = false ∧ x.gen.remaining + x.gen.pulseDuty / 2 = x.gen.pulseDuty ∧ ¬(16 ≤ x.gen.pulseDuty ∧ x.ctl.state = .active)) := by decide

theorem test_witness_CurrentResultJoinsTheAccumulator :
    let s := converting .active .isns [.tsns]
    s.started = true ∧ s.meas.conv = some ⟨.isns, 40, 0, false⟩ := by decide

theorem test_witness_TemperatureResultIsCompared :
    let s := converting .active .tsns [.tsns, .vsns]; let u := converting .fault .tsns [.tsns]
    let v := { converting .fault .tsns [.tsns] with
      ctl := { controller .fault with faultCause := some .overtemp }, frame := FrameUnit.reset }
    (s.started = true ∧ s.meas.conv = some ⟨.tsns, 40, 0, false⟩ ∧ s.port.config.tempTrip.toNat ≤ (900 : Reading).toNat ∧ s.ctl.state ≠ .fault
        ∧ ¬s.port.config.tempTrip.toNat ≤ (899 : Reading).toNat)
      ∧ (u.started = true ∧ u.meas.conv = some ⟨.tsns, 40, 0, false⟩ ∧ u.port.config.tempTrip.toNat ≤ (900 : Reading).toNat ∧ u.ctl.state = .fault)
      ∧ (v.started = true ∧ v.meas.conv = some ⟨.tsns, 40, 0, false⟩ ∧ ¬v.port.config.tempTrip.toNat ≤ (819 : Reading).toNat
        ∧ (819 : Reading).toNat < v.port.config.tempClear.toNat ∧ v.ctl.state = .fault
        ∧ v.ctl.faultCause = some .overtemp ∧ v.frame.takingPart = false
        ∧ ¬(820 : Reading).toNat < v.port.config.tempClear.toNat) := by decide

theorem test_witness_VoltageResultIsCompared :
    ((converting .listen .vsns [.vsns]).started = true ∧ (converting .listen .vsns [.vsns]).meas.conv = some ⟨.vsns, 40, 0, false⟩
        ∧ (converting .listen .vsns [.vsns]).ctl.state = .listen)
      ∧ ((converting .aside .vsns [.vsns]).started = true ∧ (converting .aside .vsns [.vsns]).meas.conv = some ⟨.vsns, 40, 0, false⟩
        ∧ (converting .aside .vsns [.vsns]).ctl.state = .aside)
      ∧ ((converting .check .vsns [.vsns]).started = true ∧ (converting .check .vsns [.vsns]).meas.conv = some ⟨.vsns, 40, 0, false⟩
        ∧ (converting .check .vsns [.vsns]).ctl.state = .check)
      ∧ ((converting .active .vsns [.vsns]).started = true ∧ (converting .active .vsns [.vsns]).meas.conv = some ⟨.vsns, 40, 0, false⟩
        ∧ (converting .active .vsns [.vsns]).ctl.state = .active)
      ∧ (299 : Reading).toNat < defaultConfig.vinMin.toNat ∧ ¬(300 : Reading).toNat < defaultConfig.vinMin.toNat
      ∧ ¬defaultConfig.vinOk.toNat ≤ (339 : Reading).toNat ∧ defaultConfig.vinOk.toNat ≤ (340 : Reading).toNat
      ∧ (converting .active .vsns [.vsns]).port.config = defaultConfig := by decide

theorem test_witness_NominalWordsStepTheTally :
    let s := { listening none 0 with meas := { MeasurementUnit.reset with pace := ⟨true, 19200⟩, tally := 2 } }
    let u := { listening none 0 with meas := { MeasurementUnit.reset with pace := ⟨true, 19200⟩, tally := 3 } }
    (s.ctl.state = .listen ∧ s.meas.pace.running = true ∧ 30 * s.frameLen ≤ s.meas.pace.count
        ∧ s.meas.tally + 1 < s.port.config.hkWords.toNat)
      ∧ (u.ctl.state = .listen ∧ u.meas.pace.running = true ∧ 30 * u.frameLen ≤ u.meas.pace.count
        ∧ u.port.config.hkWords.toNat ≤ u.meas.tally + 1) := by decide

theorem test_witness_NominalWordsStepTheTally_in_fault :
    let s := { ended .overcurrent 640 with meas := { MeasurementUnit.reset with freeFrames := 28, tally := 0 } }
    let u := { ended .overcurrent 640 with meas := { MeasurementUnit.reset with freeFrames := 29, tally := 2 } }
    let v := { ended .overcurrent 640 with meas := { MeasurementUnit.reset with freeFrames := 29, tally := 3 } }
    (s.ctl.state = .fault ∧ s.frame.takingPart = false ∧ s.frameLen ≤ s.frame.counter ∧ s.meas.freeFrames < 29)
      ∧ (u.ctl.state = .fault ∧ u.frame.takingPart = false ∧ u.frameLen ≤ u.frame.counter ∧ u.meas.freeFrames = 29 ∧ u.meas.tally + 1 < u.port.config.hkWords.toNat)
      ∧ (v.ctl.state = .fault ∧ v.frame.takingPart = false ∧ v.frameLen ≤ v.frame.counter ∧ v.meas.freeFrames = 29 ∧ v.port.config.hkWords.toNat ≤ v.meas.tally + 1) := by decide

theorem test_witness_DemandEdgesCaptureThePeriod :
    let s := { aligned .shed 3 0 with dmd := { DemandMonitor.reset with filter := ⟨4, false, some false⟩ } }
    let u := { aligned .shed 3 0 with dmd := { DemandMonitor.reset with filter := ⟨4, false, some false⟩, cond := .opened, capture := 400 } }
    let v := { aligned .shed 3 0 with dmd := { DemandMonitor.reset with filter := ⟨4, false, some false⟩, cond := .opened, capture := 4000, goodRun := 1 } }
    let x := { aligned .shed 3 0 with dmd := { DemandMonitor.reset with filter := ⟨4, true, some true⟩ } }
    (s.started = true ∧ s.dmd.filter.level = some false ∧ s.dmd.cond ≠ .opened)
      ∧ (u.started = true ∧ u.dmd.filter.level = some false ∧ u.dmd.cond = .opened
        ∧ u.port.config.dmdMin.toNat ≤ u.dmd.capture ∧ u.dmd.capture ≤ u.port.config.dmdMax.toNat
        ∧ u.dmd.goodRun = 0)
      ∧ (v.started = true ∧ v.dmd.filter.level = some false ∧ v.dmd.cond = .opened
        ∧ v.port.config.dmdMin.toNat ≤ v.dmd.capture ∧ v.dmd.capture ≤ v.port.config.dmdMax.toNat
        ∧ v.dmd.valid = false ∧ 0 < v.dmd.goodRun)
      ∧ (x.started = true ∧ x.dmd.filter.level = some true) := by decide

theorem test_witness_BadPeriodsLoseTheDemand :
    let s := { aligned .shed 3 0 with dmd := { DemandMonitor.reset with filter := ⟨4, false, some false⟩, cond := .opened, capture := 399, valid := true, badRun := 1 } }
    let u := { aligned .shed 3 0 with dmd := { DemandMonitor.reset with filter := ⟨4, false, some false⟩, cond := .opened, capture := 4001 } }
    let v := { aligned .aside 3 0 with dmd := { DemandMonitor.reset with capture := 8001, timeouts := 1, valid := true, badRun := 1 } }
    let x := { aligned .fault 3 0 with dmd := { DemandMonitor.reset with capture := 4001, valid := true, badRun := 1 } }
    (s.started = true ∧ s.dmd.filter.level = some false ∧ s.dmd.cond = .opened
        ∧ s.dmd.capture < s.port.config.dmdMin.toNat ∧ s.dmd.valid = true ∧ 0 < s.dmd.badRun
        ∧ s.ctl.state.isMember = true)
      ∧ (u.started = true ∧ u.dmd.filter.level = some false ∧ u.dmd.cond = .opened
        ∧ u.port.config.dmdMax.toNat < u.dmd.capture ∧ u.dmd.valid = false)
      ∧ (v.started = true ∧ v.dmd.capture = (v.dmd.timeouts + 1) * v.port.config.dmdMax.toNat + 1
        ∧ v.dmd.valid = true ∧ 0 < v.dmd.badRun ∧ v.ctl.state = .aside)
      ∧ (x.started = true ∧ x.dmd.capture = (x.dmd.timeouts + 1) * x.port.config.dmdMax.toNat + 1
        ∧ x.dmd.valid = true ∧ 0 < x.dmd.badRun ∧ x.ctl.state = .fault) := by decide

theorem test_witness_ReadCommandBytesFixTheirData :
    setup.straps = some strapsLow ∧ setup.port.awaitRise = false := by decide

theorem test_witness_LaterBytesShiftTheResultAndTheData :
    (∃ t, (talking setup .ident .accepted 1).port.txn = some t ∧ t.cmd = .ident ∧ t.result = .accepted ∧ 1 ≤ t.bytes ∧ t.bytes = 1)
      ∧ (∃ t, (talking setup .readStatus .accepted 3).port.txn = some t ∧ t.cmd = .readStatus ∧ t.result = .accepted ∧ 1 ≤ t.bytes ∧ t.bytes = 3)
      ∧ (∃ t, (talking setup .readHistory .accepted 1).port.txn = some t ∧ t.cmd = .readHistory ∧ t.result = .accepted ∧ 1 ≤ t.bytes ∧ t.bytes = 1)
      ∧ (∃ t, (talking setup .start (.invalidConfig 8) 1).port.txn = some t ∧ t.cmd = .start ∧ t.result = (.invalidConfig 8) ∧ 1 ≤ t.bytes ∧ t.bytes = 1)
      ∧ (∃ t, (talking setup .clearFault .refusedState 2).port.txn = some t ∧ t.cmd = .clearFault ∧ t.result = .refusedState ∧ 1 ≤ t.bytes ∧ t.bytes = 2)
      ∧ (∃ t, (talking setup .unknown .unknown 1).port.txn = some t ∧ t.cmd = .unknown ∧ t.result = .unknown ∧ 1 ≤ t.bytes ∧ t.bytes = 1) := 
  ⟨⟨_, rfl, by decide⟩, ⟨_, rfl, by decide⟩, ⟨_, rfl, by decide⟩, ⟨_, rfl, by decide⟩, ⟨_, rfl, by decide⟩,
    ⟨_, rfl, by decide⟩⟩

theorem test_witness_LaterBytesShiftTheResultAndTheData_after_completion :
    ∀ c ∈ [PortCommand.start, .aside, .ret, .clearFault],
      (talking (aligned .shed 3 0) c .accepted 2).port.txn = some ⟨c, .accepted, 2, [], [], 0, 0⟩
        ∧ (talking (aligned .shed 3 0) c .accepted 2).straps ≠ none
        ∧ (talking (aligned .shed 3 0) c .accepted 2).port.awaitRise = false := by decide

theorem test_witness_ConfigurationLayoutRoundTrips :
    (List.replicate 48 (0xFF : Byte)).length = 48 := by decide

theorem test_witness_WriteConfigReplacesTheRecord :
    setup.straps = some strapsLow ∧ setup.port.awaitRise = false ∧ setup.ctl.state = .setup ∧ strapsLow.auto = false
      ∧ (∀ n ∈ [1, 2, 48, 49, 50],
        (talking setup .writeConfig .accepted n).port.txn = some ⟨.writeConfig, .accepted, n, [], [], 0, 0⟩) := by decide

theorem test_witness_StartTestsTheRecordAndEntersListen :
    setup.straps = some strapsLow ∧ setup.port.awaitRise = false ∧ setup.ctl.state = .setup
      ∧ (talking setup .start .accepted 1).port.txn = some ⟨.start, .accepted, 1, [], [], 0, 0⟩ := by decide

theorem test_witness_StatusReadShowsAndClearsTheFlags :
    let s := { setup with
      port := { setup.port with marks := some 4, txn := some ⟨.readStatus, .accepted, 2, [], [], 6, 0⟩ } }
    s.straps = some strapsLow ∧ s.port.awaitRise = false ∧ s.port.marks = some 4
      ∧ s.port.txn = some ⟨.readStatus, .accepted, 2, [], [], 6, 0⟩ := by decide

theorem test_witness_RaiseSetsTheFlagAndItsMark :
    { setup.port with marks := some 4 }.marks = some 4 ∧ setup.port.marks = none := by decide

theorem test_witness_FlagsStandUntilAStatusReadReturnsThem :
    let s := { setup with
      port :=
        { setup.port with
          flags := 6, marks := some 4, txn := some ⟨.readStatus, .accepted, 2, [], [], 6, 0⟩ } }
    ∃ t, exec (.readStatus (.later 0)) s = .next t ∧ s.flagSet .overcurrent = true
      ∧ t.flagSet .overcurrent = false ∧ t.flagSet .overtemp = true ∧ s.port.marks = some 4
      ∧ s.pending = [] ∧ (∃ u, step s = .next u)
      ∧ s.ctl.state = .setup ∧ s.frame.takingPart = false ∧ s.gen.inFlight = false
      ∧ s.flagSet .duplicate = false :=
  ⟨_, rfl, by decide, by decide, by decide, rfl, rfl, ⟨_, rfl⟩, rfl, rfl, rfl, by decide⟩

theorem test_witness_HistoryReadReturnsAndRemovesTheRecords :
    let s := talking setup .readHistory .accepted 2
    s.straps ≠ none ∧ s.port.awaitRise = false ∧ s.port.txn = some ⟨.readHistory, .accepted, 2, [], [], 0, 0⟩ := by decide

theorem test_witness_AsideAndReturnMoveTheCommandedFlag :
    ((aligned .listen 3 0).straps ≠ none ∧ (aligned .listen 3 0).port.awaitRise = false
        ∧ (aligned .listen 3 0).ctl.causes.commanded = false ∧ (aligned .listen 3 0).ctl.state = .listen)
      ∧ ((aligned .fault 3 0).straps ≠ none ∧ (aligned .fault 3 0).port.awaitRise = false
        ∧ (aligned .fault 3 0).ctl.causes.commanded = false ∧ (aligned .fault 3 0).ctl.state = .fault)
      ∧ ((aligned .aside 3 0).straps ≠ none ∧ (aligned .aside 3 0).port.awaitRise = false
        ∧ (aligned .aside 3 0).ctl.causes.commanded = false ∧ (aligned .aside 3 0).ctl.state = .aside)
      ∧ ((aligned .check 3 0).straps ≠ none ∧ (aligned .check 3 0).port.awaitRise = false
        ∧ (aligned .check 3 0).ctl.causes.commanded = false ∧ (aligned .check 3 0).ctl.state = .check)
      ∧ ((aligned .hold 3 0).straps ≠ none ∧ (aligned .hold 3 0).port.awaitRise = false
        ∧ (aligned .hold 3 0).ctl.causes.commanded = false ∧ (aligned .hold 3 0).ctl.state = .hold)
      ∧ (talking (aligned .hold 3 0) .aside .accepted 1).port.txn = some ⟨.aside, .accepted, 1, [], [], 0, 0⟩
      ∧ (talking (aligned .hold 3 0) .ret .accepted 1).port.txn = some ⟨.ret, .accepted, 1, [], [], 0, 0⟩ := by decide

theorem test_witness_ClearFaultRejoins :
    let s := talking (ended .duplicate 5) .clearFault .accepted 1
    s.straps ≠ none ∧ s.port.awaitRise = false ∧ s.ctl.state = .fault ∧ s.ctl.announce = 0
      ∧ s.ctl.faultCause = some .duplicate
      ∧ s.port.txn = some ⟨.clearFault, .accepted, 1, [], [], 0, 0⟩ := by decide

theorem test_witness_UnknownBytesAndCutsChangeOnlyThePort :
    setup.straps ≠ none ∧ setup.port.awaitRise = false ∧ (0x00 : Byte) ∉ commandCodes ∧ (0x13 : Byte) ∉ commandCodes := by decide

theorem test_witness_GatesNeverConductTogether :
    GatesSafe (pulsing .active 100 50) ∧ ∃ t, step (pulsing .active 100 50) = .next t :=
  ⟨by unfold GatesSafe; decide, _, rfl⟩

theorem test_witness_StationKeepsItsPlaceInTheGroup :
    StationFits (aligned .shed 3 100) ∧ ∃ t, step (aligned .shed 3 100) = .next t :=
  ⟨⟨by unfold BarrierFits; decide, fun d h => by cases d <;> simp [aligned, controller, Controller.reset] at h,
    by decide⟩, _, rfl⟩

theorem test_witness_TrimStaysWithinItsLimit :
    ShareFits (aligned .shed 3 100) ∧ ∃ t, step (aligned .shed 3 100) = .next t :=
  ⟨by unfold ShareFits; decide, _, rfl⟩

theorem test_witness_ConverterServesItsQueue :
    ConverterFits (converting .shed .tsns [.tsns, .vsns])
      ∧ ∃ t, step (converting .shed .tsns [.tsns, .vsns]) = .next t :=
  ⟨⟨by decide, by decide, by decide, fun c h => by cases h; decide⟩, _, rfl⟩

theorem test_witness_DemandCauseFollowsTheMonitor :
    DemandFits (aligned .shed 3 100) ∧ ∃ t, step (aligned .shed 3 100) = .next t :=
  ⟨by unfold DemandFits; decide, _, rfl⟩

theorem test_witness_HistoryStaysBoundedAndRosterHolds :
    HistoryFits (aligned .shed 3 100) ∧ ∃ t, step (aligned .shed 3 100) = .next t :=
  ⟨⟨by decide, fun t h => by simp [aligned, setup, State.reset, PortUnit.reset] at h⟩, _, rfl⟩

theorem test_witness_HistoryStaysBoundedAndRosterHolds_listening :
    let s := listening none 0
    StationFits s ∧ RosterFits s ∧ s.ctl.state = .listen ∧ ∃ t, step s = .next t :=
  ⟨⟨by unfold BarrierFits; decide, fun d h => by cases d <;> simp [listening, Controller.reset] at h, by decide⟩,
    fun _ => rfl, rfl, _, rfl⟩

theorem test_witness_HistoryStaysBoundedAndRosterHolds_between_closes :
    let s := { aligned .shed 3 100 with pending := [.pullPoint] }
    ∃ t, step s = .next t ∧ t.exch.wordNumber = s.exch.wordNumber :=
  ⟨_, rfl, rfl⟩

end Sys2Proof.Tests
end

section
/-! ## The place of a station in the group -/

namespace Sys2Proof.Machine

/-- What `StationFits` reads of the frame unit, the exchange unit and the straps. -/
def State.place (s : State) : (Option (Fin 30) × Bool × Bool) × (Bool × Bool × Bool) × Option Straps :=
  ((s.frame.index, s.frame.takingPart, s.frame.pulling), (s.exch.drive, s.exch.wordOpen, s.exch.closeDue), s.straps)

theorem State.place_eq_iff {s t : State} :
    t.place = s.place ↔
      (t.frame.index = s.frame.index ∧ t.frame.takingPart = s.frame.takingPart
        ∧ t.frame.pulling = s.frame.pulling)
      ∧ (t.exch.drive = s.exch.drive ∧ t.exch.wordOpen = s.exch.wordOpen ∧ t.exch.closeDue = s.exch.closeDue)
      ∧ t.straps = s.straps := by
  simp [State.place]

/-- A step that leaves the place and the controller alone keeps the invariant. -/
theorem StationFits.congr {s t : State} (h : StationFits s) (hp : t.place = s.place) (hc : t.ctl = s.ctl) :
    StationFits t := by
  obtain ⟨⟨hi, ht, hpull⟩, ⟨hd, ho, hdue⟩, hs⟩ := State.place_eq_iff.mp hp
  simpa only [StationFits, BarrierFits, ControllerFits, hi, ht, hpull, hd, ho, hdue, hs, hc] using h

/-- A change of the controller alone keeps the barrier's part if the new state agrees with the part taken. -/
theorem BarrierFits.of_place {s t : State} (h : BarrierFits s) (hp : t.place = s.place)
    (hg : t.ctl.state.inGroup = true → s.frame.takingPart = true)
    (hl : t.ctl.state = .setup ∨ t.ctl.state = .listen → s.frame.takingPart = false)
    (hs : s.straps = none → t.ctl.state = .setup) : BarrierFits t := by
  obtain ⟨⟨hi, ht, hpull⟩, ⟨hd, ho, hdue⟩, hst⟩ := State.place_eq_iff.mp hp
  obtain ⟨h1, h2, h3, h4, h5, -, -, -⟩ := h
  simp only [BarrierFits, hi, ht, hpull, hd, ho, hdue, hst]
  exact ⟨h1, h2, h3, h4, h5, hg, hl, hs⟩

/-- A controller just entered into a state: no decision, the counters 0, the cold flag clear. -/
theorem ControllerFits.of_calm {s : State} (hcalm : s.ctl.calm = s.ctl) (hd : s.ctl.decided = none)
    (hc : s.ctl.state.leavesForAside = true → s.ctl.causes.isEmpty = true)
    (hf : s.ctl.faultCause.isSome = (s.ctl.state == .fault))
    (ha : s.ctl.announce ≤ 2)
    (ha' : s.ctl.announce ≠ 0 →
      s.ctl.state = .fault ∧ s.frame.takingPart = true ∧ s.ctl.faultCause ≠ some .duplicate)
    (hh : s.ctl.haltWord = true → s.ctl.state = .fault)
    (hb : s.ctl.bias = !(s.ctl.state == .parked)) : ControllerFits s := by
  obtain ⟨hshed, hwarm, hhold, hcold⟩ :
      s.ctl.shedRun = 0 ∧ s.ctl.warmCount = 0 ∧ s.ctl.holdCount = 0 ∧ s.ctl.cold = false := by
    rw [← hcalm]; exact ⟨rfl, rfl, rfl, rfl⟩
  simp only [ControllerFits, hd, hshed, hwarm, hhold, hcold]
  exact ⟨by simp, hc, by simp, hf, ha, ha', hh, by simpa using hb, by simp, by simp, by simp, by simp, by simp,
    by simp⟩

theorem BarrierFits.state_of_takingPart {s : State} (h : BarrierFits s) (ht : s.frame.takingPart = true) :
    s.ctl.state ≠ .setup ∧ s.ctl.state ≠ .listen := by
  obtain ⟨-, -, -, -, -, -, hl, -⟩ := h
  constructor <;> intro hs <;> simp [hl, hs] at ht

theorem BarrierFits.straps_ne_none {s : State} (h : BarrierFits s) (hs : s.ctl.state ≠ .setup) :
    s.straps ≠ none := by
  obtain ⟨-, -, -, -, -, -, -, hn⟩ := h
  exact fun e => hs (hn e)

/-! What the invariant says of a station in a given state. -/

namespace StationFits

variable {s : State} (h : StationFits s)
include h

theorem takingPart_of_inGroup (hg : s.ctl.state.inGroup = true) : s.frame.takingPart = true := by
  obtain ⟨⟨-, -, -, -, -, hg', -, -⟩, -⟩ := h
  exact hg' hg

theorem causes_isEmpty (hl : s.ctl.state.leavesForAside = true) : s.ctl.causes.isEmpty = true := by
  obtain ⟨-, -, hc, -⟩ := h
  exact hc hl

/-- Outside FAULT there is no fault cause, nothing to announce and no announced word. -/
theorem quiet_of_not_fault (hs : s.ctl.state ≠ .fault) :
    s.ctl.faultCause = none ∧ s.ctl.announce = 0 ∧ s.ctl.haltWord = false := by
  obtain ⟨-, -, -, -, hf, -, ha, hh, -⟩ := h
  refine ⟨by simpa [beq_eq_false_iff_ne.mpr hs] using hf, ?_, ?_⟩
  · by_contra hn; exact hs (ha hn).1
  · by_contra hn; exact hs (hh (by simpa using hn))

theorem bias_eq : s.ctl.bias = !(s.ctl.state == .parked || (s.ctl.state == .hold && s.ctl.cold)) := by
  obtain ⟨-, -, -, -, -, -, -, -, hb, -⟩ := h
  exact hb

end StationFits

end Sys2Proof.Machine
end

section
namespace Sys2Proof.Machine

/-! Operations that leave the place alone. -/

section
variable (s : State)

@[simp] theorem State.setRoster_place (r : RosterUnit) : (s.setRoster r).place = s.place := rfl
@[simp] theorem State.setCtl_place (c : Controller) : (s.setCtl c).place = s.place := rfl
@[simp] theorem State.setGen_place (g : PhaseGenerator) : (s.setGen g).place = s.place := rfl
@[simp] theorem State.setMeas_place (m : MeasurementUnit) : (s.setMeas m).place = s.place := rfl
@[simp] theorem State.setDmd_place (d : DemandMonitor) : (s.setDmd d).place = s.place := rfl
@[simp] theorem State.setPort_place (p : PortUnit) : (s.setPort p).place = s.place := rfl
@[simp] theorem State.setPending_place (q : List Instr) : (s.setPending q).place = s.place := rfl
@[simp] theorem State.raise_place (f : Flag) : (s.raise f).place = s.place := rfl
@[simp] theorem State.raiseIf_place (b : Bool) (f : Flag) : (s.raiseIf b f).place = s.place := by simp [State.place]
@[simp] theorem State.enterAside_place : s.enterAside.place = s.place := by simp [State.place]
@[simp] theorem State.enterFault_place (c : FaultCause) (n : Nat) : (s.enterFault c n).place = s.place := by
  simp [State.place]
@[simp] theorem State.enterHold_place : s.enterHold.place = s.place := by simp [State.place]
@[simp] theorem State.removeCause_place (c : AsideCause) : (s.removeCause c).place = s.place := by simp [State.place]
@[simp] theorem State.enterDecision_place (d : Decision) : (s.enterDecision d).place = s.place := by simp [State.place]
@[simp] theorem State.resumeLg_place : s.resumeLg.place = s.place := by simp [State.place]
@[simp] theorem State.swapSchedule_place : s.swapSchedule.place = s.place := by simp [State.place]
@[simp] theorem State.stepTally_place : s.stepTally.place = s.place := by simp [State.place]

end

/-- A cause removed leaves none where there was none (R77). -/
theorem AsideCauses.isEmpty_remove {x : AsideCauses} (c : AsideCause) (hx : x.isEmpty = true) :
    (x.remove c).isEmpty = true := by
  cases c <;> simp_all [AsideCauses.remove, AsideCauses.isEmpty]

theorem StationState.inGroup_of_leavesForAside {x : StationState} (hx : x.leavesForAside = true) :
    x.inGroup = true := by
  cases x <;> simp_all [StationState.leavesForAside, StationState.inGroup, StationState.isMember]

theorem StationState.ne_fault_of_inGroup {x : StationState} (hx : x.inGroup = true) : x ≠ .fault := by
  rintro rfl
  simp [StationState.inGroup, StationState.isMember] at hx

/-- A member other than HOLD has its bias off in PARKED alone, so a cold entry to HOLD finds or turns it off (R163). -/
theorem StationState.bias_of_member {x : StationState} (cold : Bool) (hm : x.isMember = true) (hh : x ≠ .hold) :
    ((!(x == .parked || (x == .hold && cold))) && !(x == .parked || x == .warming))
      = !(x == .parked || x == .warming) := by
  revert hm hh
  cases x <;> cases cold <;> decide

/-- The entry to ASIDE of a station that takes part and is in no fault (R85). -/
theorem BarrierFits.enterAside {s : State} (hb : BarrierFits s) (ht : s.frame.takingPart = true)
    (hq : s.ctl.faultCause = none ∧ s.ctl.announce = 0 ∧ s.ctl.haltWord = false) : StationFits s.enterAside := by
  obtain ⟨hcause, hann, hhalt⟩ := hq
  obtain ⟨hset, -⟩ := hb.state_of_takingPart ht
  refine ⟨hb.of_place s.enterAside_place (fun _ => ht) ?_ (fun e => absurd e (hb.straps_ne_none hset)), ?_⟩
  · simp [State.enterAside_ctl]
  · apply ControllerFits.of_calm <;>
      simp [State.enterAside_ctl, Controller.calm, StationState.leavesForAside, StationState.isMember, hcause,
        hann, hhalt]

/-! ## Small changes that keep the invariant -/

namespace StationFits

variable {s t : State}

/-- The aside causes and the request may change, as long as no cause is new. -/
theorem of_causes (h : StationFits s) (hp : t.place = s.place) (x : AsideCauses) (n : Nat)
    (hc : t.ctl = { s.ctl with causes := x, request := n })
    (he : s.ctl.causes.isEmpty = true → x.isEmpty = true) : StationFits t := by
  obtain ⟨hb, hd, hl, ha, hrest⟩ := h
  obtain ⟨⟨-, ht, -⟩, -⟩ := State.place_eq_iff.mp hp
  have ⟨_, _, _, _, _, hg, hs, hn⟩ := hb
  refine ⟨hb.of_place hp (by rw [hc]; exact hg) (by rw [hc]; exact hs) (by rw [hc]; exact hn), ?_⟩
  simp only [ControllerFits, hc, ht]
  exact ⟨hd, fun hs => he (hl hs), fun hs hs' => he (ha hs hs'), hrest⟩

/-- The decided state and the counters of a close may change in the state they belong to. -/
theorem of_decided (h : StationFits s) (hp : t.place = s.place) (d : Option Decision) (run hold : Nat)
    (hc : t.ctl = { s.ctl with decided := d, shedRun := run, holdCount := hold })
    (hd : ∀ x, d = some x → s.ctl.state.decides x = true)
    (ha : s.ctl.state = .aside → d ≠ none → s.ctl.causes.isEmpty = true)
    (hcold : s.ctl.state = .hold → (d = some .shed → s.ctl.cold = false) ∧ (d = some .parked → s.ctl.cold = true))
    (hrun : run ≠ 0 → s.ctl.state = .shed) (hhold : hold ≠ 0 → s.ctl.state = .hold) : StationFits t := by
  obtain ⟨hb, -, hl, -, hf, hn, hn', hh, hbias, hco, -, -, -, hwarm, -⟩ := h
  obtain ⟨⟨-, ht, -⟩, -⟩ := State.place_eq_iff.mp hp
  have ⟨_, _, _, _, _, hg, hs, hnone⟩ := hb
  refine ⟨hb.of_place hp (by rw [hc]; exact hg) (by rw [hc]; exact hs) (by rw [hc]; exact hnone), ?_⟩
  simp only [ControllerFits, hc, ht]
  exact ⟨hd, hl, ha, hf, hn, hn', hh, hbias, hco, fun hs => (hcold hs).1, fun hs => (hcold hs).2, hrun, hwarm, hhold⟩

/-- The announce words may fall, the announced word may open in FAULT, the warm-up may count in WARMING. -/
theorem of_counts (h : StationFits s) (hp : t.place = s.place) (w n : Nat) (b : Bool)
    (hc : t.ctl = { s.ctl with warmCount := w, announce := n, haltWord := b })
    (hw : w ≠ 0 → s.ctl.state = .warming) (hn : n ≤ s.ctl.announce) (hb : b = true → s.ctl.state = .fault) :
    StationFits t := by
  obtain ⟨hbar, hd, hl, ha, hf, hle, hann, -, hbias, hco, hcs, hcp, hrun, -, hhold⟩ := h
  obtain ⟨⟨-, ht, -⟩, -⟩ := State.place_eq_iff.mp hp
  have ⟨_, _, _, _, _, hg, hs, hnone⟩ := hbar
  refine ⟨hbar.of_place hp (by rw [hc]; exact hg) (by rw [hc]; exact hs) (by rw [hc]; exact hnone), ?_⟩
  simp only [ControllerFits, hc, ht]
  exact ⟨hd, hl, ha, hf, by omega, fun h0 => hann (by omega), hb, hbias, hco, hcs, hcp, hrun, hw, hhold⟩

/-- The lines and the word in progress may change, as long as only a station that takes part pulls or is in a word. -/
theorem of_lines (h : StationFits s) (hc : t.ctl = s.ctl) (hst : t.straps = s.straps)
    (hi : t.frame.index.isSome = s.frame.index.isSome) (ht : t.frame.takingPart = s.frame.takingPart)
    (hp : t.frame.pulling = true → s.frame.takingPart = true)
    (hd : t.exch.drive = true → s.frame.takingPart = true)
    (ho : t.exch.wordOpen = true → s.frame.takingPart = true)
    (hdue : t.exch.closeDue = true → t.exch.wordOpen = true) : StationFits t := by
  obtain ⟨⟨hidx, -, -, -, -, hg, hl, hn⟩, hctl⟩ := h
  refine ⟨?_, ?_⟩
  · simp only [BarrierFits, hc, hst, hi, ht]
    exact ⟨hidx, hp, hd, ho, hdue, hg, hl, hn⟩
  · simpa only [ControllerFits, hc, ht] using hctl

theorem setRoster (h : StationFits s) (r : RosterUnit) : StationFits (s.setRoster r) := h.congr rfl rfl
theorem setGen (h : StationFits s) (g : PhaseGenerator) : StationFits (s.setGen g) := h.congr rfl rfl
theorem setMeas (h : StationFits s) (m : MeasurementUnit) : StationFits (s.setMeas m) := h.congr rfl rfl
theorem setDmd (h : StationFits s) (d : DemandMonitor) : StationFits (s.setDmd d) := h.congr rfl rfl
theorem setPort (h : StationFits s) (p : PortUnit) : StationFits (s.setPort p) := h.congr rfl rfl
theorem setPending (h : StationFits s) (q : List Instr) : StationFits (s.setPending q) := h.congr rfl rfl
theorem raise (h : StationFits s) (f : Flag) : StationFits (s.raise f) := h.congr rfl rfl
theorem raiseIf (h : StationFits s) (b : Bool) (f : Flag) : StationFits (s.raiseIf b f) :=
  h.congr (s.raiseIf_place b f) (by simp)
theorem resumeLg (h : StationFits s) : StationFits s.resumeLg := h.congr s.resumeLg_place (by simp)
theorem stepTally (h : StationFits s) : StationFits s.stepTally := h.congr s.stepTally_place (by simp)

/-! ## The entries to the states -/

theorem removeCause (h : StationFits s) (c : AsideCause) : StationFits (s.removeCause c) :=
  h.of_causes (s.removeCause_place c) _ _ rfl (AsideCauses.isEmpty_remove c)

theorem addCause (h : StationFits s) (c : AsideCause) : StationFits (s.addCause c) := by
  unfold State.addCause
  dsimp only
  split
  next hl =>
    have hg := StationState.inGroup_of_leavesForAside hl
    have hadd : BarrierFits (s.setCtl { s.ctl with causes := s.ctl.causes.add c }) := h.1
    exact hadd.enterAside (h.takingPart_of_inGroup hg)
      (h.quiet_of_not_fault (StationState.ne_fault_of_inGroup hg))
  next hl =>
    obtain ⟨hb, hd, -, -, hrest⟩ := h
    split
    next ha => exact ⟨hb, by simp, fun h' => absurd h' hl, by simp, by simp_all, by simp_all⟩
    next ha => exact ⟨hb, hd, fun h' => absurd h' hl, fun h' => absurd h' ha, hrest⟩

/-- The entry to FAULT (R89): a part in the barrier goes on, and only a station that takes part announces. -/
theorem enterFault (h : StationFits s) (c : FaultCause) (n : Nat) (hs : s.ctl.state ≠ .setup) (hn : n ≤ 2)
    (hn' : n ≠ 0 → s.frame.takingPart = true ∧ c ≠ .duplicate) : StationFits (s.enterFault c n) := by
  refine ⟨h.1.of_place (s.enterFault_place c n) ?_ ?_ (fun e => absurd e (h.1.straps_ne_none hs)), ?_⟩
  · simp [State.enterFault_ctl, StationState.inGroup, StationState.isMember]
  · simp [State.enterFault_ctl]
  · apply ControllerFits.of_calm <;>
      simp [State.enterFault_ctl, Controller.calm, StationState.leavesForAside, StationState.isMember, hn]
    exact hn'

/-- A fault declared in any state (R88, R92). -/
theorem declareFault (h : StationFits s) (c : FaultCause) : StationFits (s.declareFault c) := by
  unfold State.declareFault
  split
  next => exact h
  next hs =>
    split
    · have hl : StationFits (s.setFrame { s.frame.leaveListen with counter := 0 }) := h.congr rfl rfl
      exact hl.enterFault c 0 (by simp [hs]) (by omega) (by simp)
    · exact h
  next => exact h.raise _
  next hsetup hlisten hfault =>
    have hg : s.ctl.state.inGroup = true := by
      cases hs : s.ctl.state <;> simp_all [StationState.inGroup, StationState.isMember]
    refine h.enterFault c _ hsetup (by split <;> omega) ?_
    exact fun hn => ⟨h.takingPart_of_inGroup hg, by rintro rfl; simp at hn⟩

/-- The entry to HOLD from a member state other than HOLD (R163): cold from PARKED and WARMING. -/
theorem enterHold (h : StationFits s) (hm : s.ctl.state.isMember = true) (hh : s.ctl.state ≠ .hold) :
    StationFits s.enterHold := by
  have hg : s.ctl.state.inGroup = true := by simp [StationState.inGroup, hm]
  have hcauses := h.causes_isEmpty (by simp [StationState.leavesForAside, hm])
  have hbias : (s.ctl.bias && !(s.ctl.state == .parked || s.ctl.state == .warming))
      = !(s.ctl.state == .parked || s.ctl.state == .warming) := by
    rw [h.bias_eq, StationState.bias_of_member _ hm hh]
  obtain ⟨hcause, hann, hhalt⟩ := h.quiet_of_not_fault (StationState.ne_fault_of_inGroup hg)
  refine ⟨h.1.of_place s.enterHold_place (fun _ => h.takingPart_of_inGroup hg) (by simp [State.enterHold]) ?_, ?_⟩
  · intro e
    exact absurd e (h.1.straps_ne_none (by rintro hs; simp [hs, StationState.isMember] at hm))
  · have hne : (StationState.hold == StationState.parked) = false := rfl
    simpa [ControllerFits, State.enterHold, StationState.leavesForAside, hcauses, hcause, hann, hhalt, hne] using hbias

theorem readHalt (h : StationFits s) : StationFits s.readHalt := by
  unfold State.readHalt
  dsimp only
  split
  iterate 4 next hs => exact (h.raise _).enterHold (by simp [hs, StationState.isMember]) (by simp [hs])
  next hs =>
    obtain ⟨-, hd, -, ha, -, -, -, -, -, -, hcs, hcp, hrun, -⟩ := id h
    exact h.of_decided rfl s.ctl.decided s.ctl.shedRun _ rfl hd ha (fun e => ⟨hcs e, hcp e⟩) hrun (fun _ => hs)
  next => exact h.raise _

end StationFits
end Sys2Proof.Machine
end

section
namespace Sys2Proof.Machine

/-- The state that a decision enters (R78). -/
def Decision.entered : Decision → StationState
  | .check => .check
  | .active => .active
  | .shed => .shed
  | .parked => .parked
  | .warming => .warming

/-- The bias after that entry: off in PARKED, on in WARMING, elsewhere as it was (R103, R105). -/
def Decision.biasAfter (d : Decision) (old : Bool) : Bool :=
  match d with
  | .parked => false
  | .warming => true
  | _ => old

theorem Decision.entered_inGroup (d : Decision) : d.entered.inGroup = true := by cases d <;> rfl

theorem Decision.entered_ne_fault (d : Decision) : d.entered ≠ .fault :=
  StationState.ne_fault_of_inGroup d.entered_inGroup

theorem Decision.entered_barred (d : Decision) : ¬(d.entered = .setup ∨ d.entered = .listen) := by
  cases d <;> simp [Decision.entered]

theorem Decision.biasAfter_eq {d : Decision} {old : Bool} (h : d ≠ .parked → d ≠ .warming → old = true) :
    d.biasAfter old = !(d.entered == .parked) := by
  revert h
  cases d <;> cases old <;> decide

/-- An entry leaves the controller calm, in the state decided, with its bias (R78, R82, R103, R105). -/
theorem State.enterDecision_ctl (s : State) (d : Decision) :
    (s.enterDecision d).ctl
      = { s.ctl.calm with state := d.entered, decided := none, bias := d.biasAfter s.ctl.bias } := by
  cases d <;> simp [State.enterDecision, Controller.calm, Decision.entered, Decision.biasAfter]

/-- Only a state of the group decides, and it decides nothing that its bias does not fit. -/
theorem StationState.decides_fits {x : StationState} {d : Decision} (h : x.decides d = true) :
    x.inGroup = true ∧ (x ≠ .aside → x.leavesForAside = true) ∧ (x = .parked → d = .warming)
      ∧ (x = .hold → d ≠ .parked → d = .shed) := by
  revert h
  cases x <;> cases d <;> decide

/-- The entry to CHECK from LISTEN, whatever the aside causes (R58, R82, R138). -/
def State.enterCheck (s : State) : State :=
  (((s.setFrame { s.frame.leaveListen with markThis := false, markLast := false }).setRoster
    RosterUnit.emptied).setCtl { s.ctl.calm with state := .check, decided := none }).setMeas
    { s.meas with pace := Timer.stopped }

/-- With an aside cause present, ASIDE follows at the same instant (R85). -/
theorem State.startCheck_eq (s : State) :
    s.startCheck = if s.ctl.causes.isEmpty then s.enterCheck else s.enterCheck.enterAside := rfl

namespace StationFits

variable {s : State}

/-- Outside the group nothing is decided. -/
theorem decided_eq_none (h : StationFits s) (hg : s.ctl.state.inGroup = false) : s.ctl.decided = none := by
  cases hd : s.ctl.decided with
  | none => rfl
  | some d =>
    obtain ⟨-, hdec, -⟩ := h
    obtain ⟨hin, -⟩ := StationState.decides_fits (hdec d hd)
    simp [hin] at hg

/-- The entry to a state that fits the one left: from ASIDE to CHECK, and among the members (R78, R106). -/
theorem enterDecision (h : StationFits s) (d : Decision) (hg : s.ctl.state.inGroup = true)
    (he : s.ctl.causes.isEmpty = true)
    (hb : d ≠ .parked → d ≠ .warming → s.ctl.bias = true) : StationFits (s.enterDecision d) := by
  obtain ⟨hcause, hann, hhalt⟩ := h.quiet_of_not_fault (StationState.ne_fault_of_inGroup hg)
  have ht := h.takingPart_of_inGroup hg
  obtain ⟨hset, -⟩ := h.1.state_of_takingPart ht
  refine ⟨h.1.of_place (s.enterDecision_place d) (fun _ => ht) ?_ (fun e => absurd e (h.1.straps_ne_none hset)), ?_⟩
  · rw [State.enterDecision_ctl]; exact fun hs => absurd hs d.entered_barred
  · apply ControllerFits.of_calm <;>
      simp [State.enterDecision_ctl, Controller.calm, he, hcause, hann, hhalt, d.entered_ne_fault,
        Decision.biasAfter_eq hb]

/-- The decided state is taken: no aside cause is left, and the bias is on where the new state keeps it. -/
theorem takeDecided (h : StationFits s) : StationFits s.takeDecided := by
  unfold State.takeDecided
  split
  next d hd =>
    obtain ⟨-, hdec, hl, ha, -, -, -, -, hbias, -, hcold, -⟩ := id h
    obtain ⟨hg, hleave, hparked, hhold⟩ := StationState.decides_fits (hdec d hd)
    refine h.enterDecision d hg ?_ fun hp hw => ?_
    · by_cases hs : s.ctl.state = .aside
      · exact ha hs (by simp [hd])
      · exact hl (hleave hs)
    · have hnp : s.ctl.state ≠ .parked := fun hs => hw (hparked hs)
      have hnc : s.ctl.state = .hold → s.ctl.cold = false := fun hs => hcold hs (by rw [hd, hhold hs hp])
      by_cases hs : s.ctl.state = .hold <;> simp [hbias, hnp, hs, hnc]
  next => exact h

/-! ## The word close -/

theorem closeCheck (h : StationFits s) (hs : s.ctl.state = .check) (b : Bool) : StationFits (s.closeCheck b) := by
  unfold State.closeCheck
  have hcount : s.ctl.shedRun = 0 ∧ s.ctl.holdCount = 0 := by
    obtain ⟨-, -, -, -, -, -, -, -, -, -, -, -, hrun, -, hhold⟩ := h
    constructor <;> by_contra hn
    · simp [hs] at hrun; exact hn hrun
    · simp [hs] at hhold; exact hn hhold
  obtain ⟨hrun, hhold⟩ := hcount
  split
  · exact h.of_decided rfl none s.ctl.shedRun s.ctl.holdCount rfl (by simp) (by simp [hs]) (by simp [hs])
      (by simp [hrun]) (by simp [hhold])
  · split
    · exact h.declareFault _
    · exact h.of_decided rfl (some .shed) 0 s.ctl.holdCount rfl (by simp [hs, StationState.decides]) (by simp [hs])
        (by simp [hs]) (by simp) (by simp [hhold])

/-- A decision that fits the state, with the counters as they are. -/
theorem setDecided (h : StationFits s) (d : Option Decision) (hd : ∀ x, d = some x → s.ctl.state.decides x = true)
    (ha : s.ctl.state = .aside → d ≠ none → s.ctl.causes.isEmpty = true) (hh : s.ctl.state ≠ .hold) :
    StationFits (s.setDecided d) := by
  have ⟨_, _, _, _, _, _, _, _, _, _, _, _, hrun, _, hhold⟩ := h
  exact h.of_decided rfl d s.ctl.shedRun s.ctl.holdCount rfl hd ha (fun hs => absurd hs hh) hrun hhold

theorem closeShed (h : StationFits s) (hs : s.ctl.state = .shed) : StationFits s.closeShed := by
  unfold State.closeShed
  have ⟨_, _, _, _, _, _, _, _, _, _, _, _, _, _, hhold⟩ := h
  split
  · exact h.setDecided _ (by simp [hs, StationState.decides]) (by simp [hs]) (by simp [hs])
  · refine h.of_decided rfl _ _ s.ctl.holdCount rfl ?_ (by simp [hs]) (by simp [hs]) (by simp [hs]) hhold
    intro x hx
    split at hx
    · obtain rfl : .parked = x := by simpa using hx
      rw [hs]; rfl
    · simp at hx

theorem closeHold (h : StationFits s) (hs : s.ctl.state = .hold) : StationFits s.closeHold := by
  have ⟨_, _, _, _, _, _, _, _, _, _, _, _, hrun, _, _⟩ := h
  refine h.of_decided rfl _ s.ctl.shedRun _ rfl ?_ (by simp [hs]) (fun _ => ?_) hrun (fun _ => hs)
  · intro x hx
    split at hx
    · cases hc : s.ctl.cold <;> simp_all [StationState.decides] <;> subst hx <;> rfl
    · simp at hx
  · split <;> cases s.ctl.cold <;> simp

theorem closeAside (h : StationFits s) (hs : s.ctl.state = .aside) : StationFits s.closeAside := by
  unfold State.closeAside
  split
  next he => exact (h.setRoster _).setDecided _ (by simp [hs, StationState.decides]) (fun _ _ => he) (by simp [hs])
  next => exact h.setDecided _ (by simp) (by simp) (by simp [hs])

theorem closeState (h : StationFits s) (b : Bool) : StationFits (s.closeState b) := by
  unfold State.closeState
  split
  next hs => exact h.closeCheck hs b
  next hs => exact h.setDecided _ (by split <;> simp [hs, StationState.decides]) (by simp [hs]) (by simp [hs])
  next hs => exact h.closeShed hs
  next hs => exact h.setDecided _ (by split <;> simp [hs, StationState.decides]) (by simp [hs]) (by simp [hs])
  next hs => exact h.setDecided _ (by split <;> simp [hs, StationState.decides]) (by simp [hs]) (by simp [hs])
  next hs => exact h.closeHold hs
  next hs => exact h.closeAside hs
  iterate 3 next hs => exact h.setDecided _ (by simp) (by simp) (by simp [hs])

theorem closeExchange (h : StationFits s) : StationFits s.closeExchange := by
  have ⟨⟨_, hp, hd, _⟩, _⟩ := h
  exact h.of_lines rfl rfl rfl rfl hp hd (by simp [State.closeExchange, ExchangeUnit.cleared])
    (by simp [State.closeExchange, ExchangeUnit.cleared])

theorem closeRoster (h : StationFits s) (r : WordRecord) : StationFits (s.closeRoster r) :=
  h.congr (by simp [State.place]) (by simp)

theorem closeRequest (h : StationFits s) : StationFits s.closeRequest :=
  h.of_causes (by simp [State.place]) s.ctl.causes _ rfl id

/-- The whole close (R47). -/
theorem closeWord (h : StationFits s) : StationFits s.closeWord := by
  have hclosed := (h.closeExchange.raiseIf s.exch.record.damaged .damagedWord).closeRoster s.exch.record
  have hdecided := hclosed.closeRequest.closeState s.exch.record.damaged
  exact hdecided.congr (by simp [State.closeWord, State.place]) (by simp [State.closeWord])

/-! ## The ends of a part in the barrier, and its beginning -/

/-- A rejoin leaves the station in LISTEN with no part (R30 to R33); only a station with straps makes one. -/
theorem rejoin (b : Bool) (hs : s.straps ≠ none) : StationFits (s.rejoin b) := by
  refine ⟨?_, ?_⟩
  · simp [BarrierFits, State.rejoin_frame, State.rejoin_exch, State.rejoin_ctl, FrameUnit.rejoin,
      FrameUnit.leaveBarrier, ExchangeUnit.cut, ExchangeUnit.cleared, Controller.rejoin, StationState.inGroup,
      StationState.isMember, hs]
  · apply ControllerFits.of_calm <;>
      simp [State.rejoin_ctl, Controller.rejoin, Controller.calm, StationState.leavesForAside, StationState.isMember]

/-- A station in FAULT with nothing left to announce leaves the barrier (R9, R90). -/
theorem endPart (h : StationFits s) (hf : s.ctl.state = .fault) (hn : s.ctl.announce = 0) :
    StationFits s.endPart := by
  obtain ⟨⟨-, -, -, -, -, -, -, hstraps⟩, hc⟩ := h
  refine ⟨?_, ?_⟩
  · simp [BarrierFits, State.endPart_frame, State.endPart_exch, State.endPart_ctl, FrameUnit.leaveBarrier,
      ExchangeUnit.cut, ExchangeUnit.cleared, StationState.inGroup, StationState.isMember, hf]
    simpa [hf] using hstraps
  · simpa [ControllerFits, State.endPart_ctl, hf, hn] using hc

/-- The entry to CHECK of a listener that starts taking part, or to ASIDE at once (R82, R85). -/
theorem startCheck (ht : s.frame.takingPart = true) (hi : s.frame.index.isSome = true)
    (hdue : s.exch.closeDue = false) (hst : s.straps ≠ none) (hf : s.ctl.faultCause = none) (hn : s.ctl.announce = 0)
    (hh : s.ctl.haltWord = false) (hb : s.ctl.bias = true) : StationFits s.startCheck := by
  rw [State.startCheck_eq]
  have hbar : BarrierFits s.enterCheck := by
    simp [BarrierFits, State.enterCheck, FrameUnit.leaveListen, ht, hi, hdue, hst]
  split
  next he =>
    refine ⟨hbar, ?_⟩
    apply ControllerFits.of_calm <;> simp [State.enterCheck, Controller.calm, hf, hn, hh, hb, he]
  next he =>
    exact hbar.enterAside ht ⟨hf, hn, hh⟩

theorem align (h : StationFits s) (hl : s.ctl.state = .listen) : StationFits s.align := by
  obtain ⟨hf, hn, hh⟩ := h.quiet_of_not_fault (by simp [hl])
  exact startCheck rfl rfl rfl (h.1.straps_ne_none (by simp [hl])) hf hn hh (by simp [h.bias_eq, hl])

theorem found (h : StationFits s) (hl : s.ctl.state = .listen) : StationFits s.found := by
  obtain ⟨hf, hn, hh⟩ := h.quiet_of_not_fault (by simp [hl])
  exact startCheck rfl rfl rfl (h.1.straps_ne_none (by simp [hl])) hf hn hh (by simp [h.bias_eq, hl])

/-- START takes effect on a station with straps (R80). -/
theorem startStation (h : StationFits s) (hst : s.straps ≠ none) : StationFits s.startStation := by
  unfold State.startStation
  split
  next hs =>
    have hdec := h.decided_eq_none (by rw [hs]; rfl)
    obtain ⟨⟨hi, hp, hd, ho, hdue, -, hl, -⟩, hc⟩ := h
    refine ⟨⟨hi, hp, hd, ho, hdue, ?_, fun _ => hl (.inl hs), fun e => absurd e hst⟩, ?_⟩
    · simp [StationState.inGroup, StationState.isMember]
    · simp_all [ControllerFits, StationState.leavesForAside, StationState.isMember]
  next => exact h

end StationFits
end Sys2Proof.Machine
end

section
namespace Sys2Proof.Machine

/-! ## The frame line and the exchange word keep the station's place -/

@[simp] theorem State.latchHigh_place (s : State) : s.latchHigh.place = s.place := by
  unfold State.latchHigh; split <;> rfl

@[simp] theorem State.startStuck_place (s : State) : s.startStuck.place = s.place := by
  unfold State.startStuck; split <;> rfl

@[simp] theorem State.takeWait_place (s : State) : s.takeWait.place = s.place := by
  unfold State.takeWait
  split
  · simp only [State.raiseIf_place]; rfl
  · rfl

@[simp] theorem State.sampleShr_place (s : State) : s.sampleShr.place = s.place := by
  rw [State.sampleShr_eq]; rfl

@[simp] theorem State.tick_place (s : State) : s.tick.place = s.place := by
  unfold State.tick
  split
  · simp only [State.setPort_place, State.setDmd_place, State.setMeas_place, State.setGen_place,
      State.sampleShr_place]
    rfl
  · rfl

/-- The fields of the drive point open beside the marks of the word. -/
theorem State.openFields_marks (s : State) (i : Nat) :
    (s.openFields i).exch.closeDue = s.exch.closeDue ∧ (s.openFields i).exch.wordOpen = s.exch.wordOpen := by
  unfold State.openFields
  split
  · exact ⟨rfl, rfl⟩
  · split <;> exact ⟨rfl, rfl⟩

theorem State.takingPart_of_place {s t : State} (hp : t.place = s.place) : t.frame.takingPart = s.frame.takingPart := by
  obtain ⟨⟨-, ht, -⟩, -⟩ := State.place_eq_iff.mp hp
  exact ht

namespace StationFits

variable {s : State}

theorem qualifyFrm (h : StationFits s) (v : Bool) : StationFits (s.qualifyFrm v) := h.congr rfl rfl
theorem latchHigh (h : StationFits s) : StationFits s.latchHigh := h.congr s.latchHigh_place (by simp)
theorem openHigh (h : StationFits s) : StationFits s.openHigh := h.congr rfl rfl

/-! ### The bits of the word -/

theorem enterBit (h : StationFits s) (i : Nat) (r : ReadBit) (ho : s.exch.wordOpen = true) :
    StationFits (s.enterBit i r) := by
  unfold State.enterBit
  split
  · have hentered : StationFits (s.setExch { s.exch with halt := some r }) := h.congr rfl rfl
    dsimp only
    split
    · exact hentered
    · exact hentered.readHalt
  · split
    · split
      · exact h.congr rfl rfl
      · split
        · exact h.declareFault _
        · exact h
    · split
      · exact h.congr rfl rfl
      · have ⟨⟨_, hp, hd, hopen, _⟩, _⟩ := h
        exact h.of_lines rfl rfl rfl rfl hp hd hopen (fun _ => ho)

theorem bitTime (h : StationFits s) (i : Nat) (r : ReadBit) (ho : s.exch.wordOpen = true) :
    StationFits (s.bitTime i r) := by
  have hdamaged : StationFits (s.setExch { s.exch with damaged := s.exch.damaged || r == .unsettled }) := h.congr rfl rfl
  exact hdamaged.enterBit i r ho

theorem driveFrame (h : StationFits s) (i : Nat) (ht : s.frame.takingPart = true) : StationFits (s.driveFrame i) := by
  have ⟨⟨_, hp, _, ho, hdue, _⟩, _⟩ := h
  unfold State.driveFrame
  split
  · refine h.of_lines (by simp) (by simp) (by simp) (by simp) (by simpa using hp) (fun _ => ht) (fun _ => ht) ?_
    simpa [State.openFields_marks] using hdue
  · exact h.of_lines rfl rfl rfl rfl hp (by simp) ho hdue

/-! ### The frame start -/

theorem judgeCutFrame (h : StationFits s) : StationFits s.judgeCutFrame := by
  unfold State.judgeCutFrame
  split
  next hc =>
    simp only [State.sampling, Bool.and_eq_true] at hc
    obtain ⟨⟨-, ho⟩, -⟩ := hc
    exact h.bitTime _ _ ho
  next => exact h

theorem takeDueClose (h : StationFits s) : StationFits s.takeDueClose := by
  unfold State.takeDueClose
  split
  · exact h.closeWord
  · exact h

theorem wordStart (h : StationFits s) (first : Bool) : StationFits (s.wordStart first) := by
  have haw : ∀ {u : State}, StationFits u → ∀ b : Bool, (b = true → u.ctl.state = .fault) →
      StationFits (u.setCtl { u.ctl with haltWord := b }) := by
    intro u hu b hb
    have ⟨_, _, _, _, _, _, _, _, _, _, _, _, _, hwarm, _⟩ := hu
    exact hu.of_counts rfl u.ctl.warmCount u.ctl.announce b rfl hwarm le_rfl hb
  unfold State.wordStart
  split
  · have hset := haw h.takeDecided (s.takeDecided.ctl.state == .fault && decide (0 < s.takeDecided.ctl.announce))
      (by simp +contextual)
    exact hset.congr (by simp) rfl
  · exact haw h false (by simp)

theorem warmRise (h : StationFits s) : StationFits s.warmRise := by
  have ⟨_, _, _, _, _, _, _, hh, _⟩ := h
  unfold State.warmRise
  split
  next hw => exact h.of_counts rfl _ s.ctl.announce s.ctl.haltWord rfl (fun _ => hw) le_rfl hh
  next => exact h

theorem startFrame (h : StationFits s) (i : Fin 30) (hi : s.frame.index = some i) : StationFits (s.startFrame i) := by
  have ht : s.frame.takingPart = true := by
    obtain ⟨⟨hidx, -⟩, -⟩ := h
    rw [← hidx, hi]; rfl
  have hw : StationFits s.takeWait := h.congr s.takeWait_place (by simp)
  have htw : s.takeWait.frame.takingPart = true := by rw [State.takingPart_of_place s.takeWait_place, ht]
  have hcounted : StationFits ((s.takeWait.setFrame (s.takeWait.frame.restart i)).setExch
      (s.takeWait.exch.newFrame (i + 1 == 0))) := by
    have ⟨⟨hidx, _, _, _, hdue, _⟩, _⟩ := hw
    refine hw.of_lines rfl rfl ?_ rfl (fun _ => htw) (fun _ => htw) (fun _ => htw) ?_
    · rw [hidx, htw]; rfl
    · intro hd
      have ho : s.takeWait.exch.wordOpen = true := hdue hd
      simp only [State.setExch_exch, ExchangeUnit.newFrame, ho, Bool.true_or]
  exact ((hcounted.setGen _).warmRise.wordStart _).resumeLg

theorem withdrawing_endPart (h : StationFits s) (hw : s.withdrawing = true) : StationFits s.endPart := by
  simp only [State.withdrawing, Bool.and_eq_true, beq_iff_eq] at hw
  obtain ⟨hf, hc⟩ := hw
  have ⟨_, _, _, _, _, _, hann, _⟩ := h
  refine h.endPart hf ?_
  by_contra hn
  obtain ⟨-, -, hne⟩ := hann hn
  exact hne hc

theorem alignedRise (h : StationFits s) : StationFits s.alignedRise := by
  have hclosed := h.judgeCutFrame.takeDueClose
  unfold State.alignedRise
  dsimp only
  split
  next i hi =>
    split
    next hw => exact withdrawing_endPart hclosed.openHigh hw
    next => exact hclosed.startFrame i hi
  next => exact hclosed

theorem frameStart (h : StationFits s) :
    StationFits
      (if s.ctl.state = .listen then (s.qualifyFrm true).setFrame (s.qualifyFrm true).frame.listenRise
       else if s.frame.takingPart then (s.qualifyFrm true).alignedRise
       else (s.qualifyFrm true).openHigh) := by
  split
  · exact h.congr rfl rfl
  · split
    · exact (h.qualifyFrm true).alignedRise
    · exact (h.qualifyFrm true).openHigh

/-! ### Classification, and the fall -/

theorem markError (h : StationFits s) (ht : s.frame.takingPart = true) : StationFits s.markError := by
  obtain ⟨hset, -⟩ := h.1.state_of_takingPart ht
  unfold State.markError
  dsimp only
  split
  · exact rejoin false (h.1.straps_ne_none hset)
  · exact h.congr rfl rfl

theorem classifyNormal (h : StationFits s) : StationFits s.classifyNormal := by
  have hc : StationFits (s.setFrame { s.frame with classed := .normal }) := h.congr rfl rfl
  unfold State.classifyNormal
  dsimp only
  split
  next ht =>
    simp only [Bool.and_eq_true] at ht
    obtain ⟨⟨ht, -⟩, -⟩ := ht
    exact hc.markError ht
  next => exact hc

theorem classifyMark (h : StationFits s) : StationFits s.classifyMark := by
  have hc : StationFits (s.setFrame { s.frame with classed := .mark }) := h.congr rfl rfl
  unfold State.classifyMark
  dsimp only
  split
  next hl =>
    split
    · exact hc.align hl
    · exact hc
  next =>
    split
    next ht =>
      simp only [Bool.and_eq_true] at ht
      obtain ⟨⟨ht, -⟩, -⟩ := ht
      exact hc.markError ht
    next => exact hc

theorem fall (h : StationFits s) : StationFits s.fall := by
  have hfell : StationFits (s.latchHigh.qualifyFrm false) := h.latchHigh.qualifyFrm false
  unfold State.fall
  extract_lets fell judged
  have hj : StationFits judged := by
    unfold judged
    split
    · exact hfell.classifyNormal
    · exact hfell
  split
  · exact hj.congr rfl rfl
  · exact hj

theorem followFall (h : StationFits s) : StationFits s.followFall := by
  unfold State.followFall
  split
  · exact h.classifyMark.fall
  · exact h.fall

/-! ### The ends of a frame and of a part -/

theorem releaseFrm (h : StationFits s) : StationFits s.releaseFrm := by
  have ⟨⟨_, _, hd, ho, hdue, _⟩, _⟩ := h
  exact h.of_lines rfl rfl rfl rfl (by simp [State.releaseFrm]) hd ho hdue

theorem startStuck (h : StationFits s) : StationFits s.startStuck := h.congr s.startStuck_place (by simp)

theorem announceEnd (h : StationFits s) (hf : s.ctl.state = .fault) : StationFits s.announceEnd := by
  have ⟨_, _, _, _, _, _, _, _, _, _, _, _, _, hwarm, _⟩ := h
  have hfewer : StationFits (s.setCtl { s.ctl with announce := s.ctl.announce - 1, haltWord := false }) :=
    h.of_counts rfl s.ctl.warmCount _ false rfl hwarm (Nat.sub_le _ _) (by simp)
  unfold State.announceEnd
  dsimp only
  split
  next hn => exact hfewer.endPart hf (by simp; omega)
  next => exact hfewer.startStuck

theorem ownEnd (h : StationFits s) :
    StationFits
      (if s.withdrawing then s.releaseFrm.endPart
       else if s.announcedFrame then s.releaseFrm.announceEnd
       else s.releaseFrm.startStuck) := by
  split
  next hw => exact h.releaseFrm.withdrawing_endPart hw
  next =>
    split
    next ha =>
      simp only [State.announcedFrame, Bool.and_eq_true, beq_iff_eq] at ha
      obtain ⟨⟨hf, -⟩, -⟩ := ha
      exact h.releaseFrm.announceEnd hf
    next => exact h.releaseFrm.startStuck

theorem stuckInFault (h : StationFits s) (hf : s.ctl.state = .fault) : StationFits s.stuckInFault := by
  have ⟨_, _, _, _, _, _, _, _, _, _, _, _, _, hwarm, _⟩ := h
  have hnone : StationFits (s.setCtl { s.ctl with announce := 0, haltWord := false }) :=
    h.of_counts rfl s.ctl.warmCount 0 false rfl hwarm (Nat.zero_le _) (by simp)
  exact (hnone.endPart hf rfl).congr rfl rfl

theorem stuck (h : StationFits s) (ht : s.frame.takingPart = true) :
    StationFits (if s.ctl.state = .fault then (s.raise .stuck).stuckInFault else (s.raise .stuck).rejoin true) := by
  split
  next hf => exact (h.raise _).stuckInFault hf
  next => exact rejoin true (h.1.straps_ne_none (h.1.state_of_takingPart ht).1)

end StationFits
end Sys2Proof.Machine
end

section
namespace Sys2Proof.Machine

namespace StationFits

variable {s : State}

/-! ### The phase generator -/

theorem warmUpComplete (h : StationFits s) (hw : s.ctl.state = .warming) :
    StationFits
      (if s.roster.inSet then (s.enterDecision .active).swapAtFrameZero.resumeLg else s.enterDecision .parked) := by
  have he := h.causes_isEmpty (by simp [hw, StationState.leavesForAside, StationState.isMember])
  have hg : s.ctl.state.inGroup = true := by rw [hw]; rfl
  split
  · have ha := h.enterDecision .active hg he (fun _ _ => by simp [h.bias_eq, hw])
    have hswap : StationFits (s.enterDecision .active).swapAtFrameZero := by
      unfold State.swapAtFrameZero
      split
      · exact ha.congr (by simp) rfl
      · exact ha
    exact hswap.resumeLg
  · exact h.enterDecision .parked hg he (by simp)

theorem countTruncated (h : StationFits s) : StationFits s.countTruncated := by
  unfold State.countTruncated
  dsimp only
  split
  · exact (h.setGen _).declareFault _
  · exact h.setGen _

theorem takePulse (h : StationFits s) : StationFits s.takePulse := by
  unfold State.takePulse
  split
  · split
    · exact h.countTruncated
    · exact h.setGen _
  · exact h

theorem takeOnPoint (h : StationFits s) : StationFits s.takeOnPoint :=
  (h.resumeLg.setGen _).takePulse.resumeLg

theorem takeOwedPoint (h : StationFits s) : StationFits s.takeOwedPoint := by
  unfold State.takeOwedPoint
  dsimp only
  split
  · exact (h.setGen _).raise _
  · exact h.setGen _

theorem cutByOci (h : StationFits s) : StationFits s.cutByOci := by
  unfold State.cutByOci
  dsimp only
  split
  · exact (h.setGen _).countTruncated
  · exact h.setGen _

/-! ### The measurement unit and the demand monitor -/

theorem takeCurrent (h : StationFits s) (d : Bool) (code : Reading) : StationFits (s.takeCurrent d code) := by
  unfold State.takeCurrent
  split
  · exact h
  · exact h.setMeas _

theorem takeTemperature (h : StationFits s) (code : Reading) : StationFits (s.takeTemperature code) := by
  unfold State.takeTemperature
  dsimp only
  split
  · exact (h.setMeas _).declareFault _
  · split
    next hc =>
      obtain ⟨-, -, he⟩ := hc
      simp only [State.faultEnded, Bool.and_eq_true, beq_iff_eq] at he
      exact rejoin false (h.1.straps_ne_none (by simp [he.1]))
    next => exact h.setMeas _

theorem takeVoltage (h : StationFits s) (code : Reading) : StationFits (s.takeVoltage code) := by
  unfold State.takeVoltage
  dsimp only
  split
  · exact ((h.setMeas _).raise _).addCause _
  · split
    · exact (h.setMeas _).removeCause _
    · exact h.setMeas _

theorem takeResult (h : StationFits s) (c : Conversion) (code : Reading) : StationFits (s.takeResult c code) := by
  unfold State.takeResult
  dsimp only
  split
  · exact (h.setMeas _).takeCurrent _ _
  · exact (h.setMeas _).takeTemperature _
  · exact (h.setMeas _).takeVoltage _

theorem passValid (h : StationFits s) : StationFits s.passValid := by
  unfold State.passValid
  split
  · exact (h.setDmd _).removeCause _
  · exact h

theorem passLost (h : StationFits s) : StationFits s.passLost := by
  unfold State.passLost
  split
  · exact ((h.setDmd _).raise _).addCause _
  · exact h

theorem badPeriod (h : StationFits s) : StationFits s.badPeriod := (h.setDmd _).passLost

theorem judgePeriod (h : StationFits s) (p : Nat) : StationFits (s.judgePeriod p) := by
  unfold State.judgePeriod
  split
  · exact (h.setDmd _).passValid
  · exact h.badPeriod

theorem dmdActiveEdge (h : StationFits s) :
    StationFits
      (if s.dmd.cond = .opened then (s.setDmd { s.dmd with period := s.dmd.capture }).judgePeriod s.dmd.capture
       else s) := by
  split
  · exact (h.setDmd _).judgePeriod _
  · exact h

/-! ### Reset and the setup port -/

theorem resetBlocks (s : State) : StationFits s.resetBlocks := by
  have hr : StationFits State.reset := by
    refine ⟨?_, ?_⟩
    · simp [BarrierFits, State.reset, FrameUnit.reset, ExchangeUnit.reset, Controller.reset, StationState.inGroup,
        StationState.isMember]
    · apply ControllerFits.of_calm <;>
        simp [State.reset, Controller.reset, Controller.calm, StationState.leavesForAside, StationState.isMember]
  exact hr.congr rfl rfl

theorem sampleStraps (h : StationFits s) (x : Straps) (low : Bool) : StationFits (s.sampleStraps x low) := by
  obtain ⟨⟨hi, hp, hd, ho, hdue, hg, hl, -⟩, hc⟩ := h
  exact ⟨⟨hi, hp, hd, ho, hdue, hg, hl, fun e => by simp [State.sampleStraps] at e⟩, hc⟩

theorem resetRelease (h : StationFits s) (x : Straps) (low : Bool) :
    StationFits (if x.auto then (s.sampleStraps x low).startStation else s.sampleStraps x low) := by
  split
  · exact (h.sampleStraps x low).startStation (by simp [State.sampleStraps])
  · exact h.sampleStraps x low

theorem commandByte (h : StationFits s) (cmd : PortCommand) (r : ResultCode) (out : List Byte) :
    StationFits (s.commandByte cmd r out) := by
  unfold State.commandByte
  split
  · exact h.setPort _
  · exact h

/-- A later byte keeps the invariant if its effect does, on a station with straps. -/
theorem laterByte (h : StationFits s) (cmd : PortCommand) (effect : Transaction → State → State)
    (he : ∀ t u, StationFits u → u.straps ≠ none → StationFits (effect t u)) :
    StationFits (s.laterByte cmd effect) := by
  unfold State.laterByte
  split
  next t _ =>
    split
    next hc =>
      simp only [State.portOpen, Bool.and_eq_true] at hc
      obtain ⟨⟨hst, -⟩, -⟩ := hc
      exact he t _ (h.setPort _) (Option.isSome_iff_ne_none.mp hst)
    next => exact h
  next => exact h

theorem atByte (h : StationFits s) (n : Nat) (effect : Transaction → State → State) (t : Transaction)
    (he : StationFits (effect t s)) : StationFits (atByte n effect t s) := by
  unfold Machine.atByte
  split
  · exact he
  · exact h

theorem keepByte (h : StationFits s) (sdi : Byte) (t : Transaction) : StationFits (keepByte sdi t s) := by
  unfold Machine.keepByte
  split
  · exact h.setPort _
  · exact h

theorem replaceRecord (h : StationFits s) (sdi : Byte) (t : Transaction) : StationFits (replaceRecord sdi t s) := by
  unfold Machine.replaceRecord
  split
  · exact h.setPort _
  · exact h

theorem takeAside (h : StationFits s) (t : Transaction) : StationFits (takeAside t s) := by
  unfold Machine.takeAside
  split
  · exact h
  · exact h.addCause _

/-! ### Every command, and time -/

theorem whenDue {b : Bool} {after t : State} (h : StationFits s) (ha : b = true → StationFits after)
    (e : whenDue b s after = .next t) : StationFits t := by
  simp only [Machine.whenDue, Host.Outcome.next.injEq] at e
  subst e
  split
  next hb => exact ha hb
  next => exact h

theorem done {after t : State} (h : StationFits after) (e : done after = .next t) : StationFits t := by
  simp only [Machine.done, Host.Outcome.next.injEq] at e
  exact e ▸ h

/-- Every row of the dispatch keeps the invariant: its condition gives what its operation asks for. -/
theorem exec {t : State} (h : StationFits s) (c : Instr) (e : exec c s = .next t) : StationFits t := by
  cases c with
  | reset => exact (resetBlocks s).done e
  | resetRelease x low => exact h.whenDue (fun _ => h.resetRelease x low) e
  | frameStart => exact h.whenDue (fun _ => h.frameStart) e
  | frameFallingEdge =>
    refine h.whenDue (fun _ => ?_) e
    split
    · exact h.followFall
    · exact h.qualifyFrm false
  | markClassified => exact h.whenDue (fun _ => h.classifyMark) e
  | pullPoint =>
    refine h.whenDue (fun hd => ?_) e
    have ⟨⟨_, _, hdrive, ho, hdue, _⟩, _⟩ := h
    simp only [State.pullDue, Bool.and_eq_true] at hd
    obtain ⟨⟨ht, -⟩, -⟩ := hd
    exact h.of_lines rfl rfl rfl rfl (fun _ => ht) hdrive ho hdue
  | ownEnd => exact h.whenDue (fun _ => h.ownEnd) e
  | stuck =>
    refine h.whenDue (fun hd => ?_) e
    simp only [State.stuckDue, Bool.and_eq_true] at hd
    exact h.stuck hd.1
  | listenStuckDeclared =>
    have hd : StationFits ((s.raise .stuck).setFrame
        { s.frame with declared := true, stuckTimer := ⟨false, 4 * s.frameLen⟩ }) := (h.raise .stuck).congr rfl rfl
    exact h.whenDue (fun _ => hd) e
  | founding =>
    refine h.whenDue (fun hd => ?_) e
    simp only [State.foundingDue, Bool.and_eq_true, beq_iff_eq] at hd
    exact h.found hd.1
  | freeRunFrame =>
    have hr : StationFits (s.setFrame { s.frame with counter := 0 }) := h.congr rfl rfl
    refine h.whenDue (fun _ => ?_) e
    split
    · exact (hr.setMeas _).stepTally
    · exact hr.setMeas _
  | drivePoint =>
    refine h.whenDue (fun hd => ?_) e
    simp only [State.driveDue, Bool.and_eq_true] at hd
    obtain ⟨⟨⟨ht, -⟩, -⟩, -⟩ := hd
    exact h.driveFrame _ ht
  | bitTime sample =>
    refine h.whenDue (fun hd => ?_) e
    simp only [State.bitDue, State.sampling, Bool.and_eq_true] at hd
    have hl : StationFits (s.lastSample sample) := h.congr rfl rfl
    obtain ⟨⟨⟨-, ho⟩, -⟩, -⟩ := hd
    exact hl.bitTime _ _ ho
  | wordClose => exact h.whenDue (fun _ => h.closeWord) e
  | housekeepingPace => exact h.whenDue (fun _ => (h.setMeas _).stepTally) e
  | warmUpComplete =>
    refine h.whenDue (fun hd => ?_) e
    simp only [State.warmDue, Bool.and_eq_true, beq_iff_eq] at hd
    obtain ⟨⟨hw, -⟩, -⟩ := hd
    exact h.warmUpComplete hw
  | leadPoint => exact h.whenDue (fun _ => h.setGen _) e
  | onPoint =>
    refine StationFits.done ?_ e
    split
    · exact h.takeOnPoint
    · split
      · exact h.takeOwedPoint
      · exact h
  | pulseEnd => exact h.whenDue (fun _ => h.setGen _) e
  | deadTimeRunOut => exact h.whenDue (fun _ => h.setGen _) e
  | currentTrigger =>
    refine h.whenDue (fun _ => ?_) e
    split
    · exact (h.setGen _).setMeas _
    · exact h.setGen _
  | ociAssert =>
    have hh := h.setGen { s.gen with oci := Filter.settle 2 true }
    refine h.whenDue (fun _ => ?_) e
    split
    · exact hh.cutByOci
    · split
      · exact (hh.setGen _).raise _
      · exact hh
  | conversionComplete code =>
    refine h.whenDue (fun _ => ?_) e
    split
    · exact (h.takeResult _ _).setMeas _
    · exact h
  | dmdActiveEdge => exact h.whenDue (fun _ => h.dmdActiveEdge.setDmd _) e
  | dmdInactiveEdge => exact h.whenDue (fun _ => h.setDmd _) e
  | dmdTimeout => exact h.whenDue (fun _ => (h.setDmd _).badPeriod) e
  | ident byte =>
    cases byte with
    | command => exact (h.commandByte _ _ _).done e
    | later sdi => exact (h.laterByte _ _ fun _ _ hu _ => hu).done e
  | readConfig byte =>
    cases byte with
    | command => exact (h.commandByte _ _ _).done e
    | later sdi => exact (h.laterByte _ _ fun _ _ hu _ => hu).done e
  | writeConfig byte =>
    cases byte with
    | command => exact (h.commandByte _ _ _).done e
    | later sdi =>
      refine (h.laterByte _ _ fun t u hu _ => ?_).done e
      exact (hu.keepByte sdi t).atByte 50 _ t ((hu.keepByte sdi t).replaceRecord sdi t)
  | start byte =>
    cases byte with
    | command => exact (h.commandByte _ _ _).done e
    | later sdi => exact (h.laterByte _ _ fun t _ hu hs => hu.atByte 2 _ t (hu.startStation hs)).done e
  | readStatus byte =>
    cases byte with
    | command =>
      refine StationFits.done ?_ e
      split
      · exact (h.setPort _).setPort _
      · exact h
    | later sdi => exact (h.laterByte _ _ fun t _ hu _ => hu.atByte 3 _ t (hu.setPort _)).done e
  | readRoster byte =>
    cases byte with
    | command => exact (h.commandByte _ _ _).done e
    | later sdi => exact (h.laterByte _ _ fun _ _ hu _ => hu).done e
  | readHistory byte =>
    cases byte with
    | command =>
      refine StationFits.done ?_ e
      split
      · exact (h.setPort _).setPort _
      · exact h
    | later sdi => exact (h.laterByte _ _ fun t _ hu _ => hu.atByte 3 _ t (hu.setPort _)).done e
  | aside byte =>
    cases byte with
    | command => exact (h.commandByte _ _ _).done e
    | later sdi => exact (h.laterByte _ _ fun t _ hu _ => hu.atByte 2 _ t (hu.takeAside t)).done e
  | ret byte =>
    cases byte with
    | command => exact (h.commandByte _ _ _).done e
    | later sdi => exact (h.laterByte _ _ fun t _ hu _ => hu.atByte 2 _ t (hu.removeCause _)).done e
  | clearFault byte =>
    cases byte with
    | command => exact (h.commandByte _ _ _).done e
    | later sdi => exact (h.laterByte _ _ fun t _ hu hs => hu.atByte 2 _ t (rejoin false hs)).done e
  | unknown code byte =>
    cases byte with
    | command =>
      refine StationFits.done ?_ e
      split
      · exact h.commandByte _ _ _
      · exact h
    | later sdi => exact (h.laterByte _ _ fun _ _ hu _ => hu).done e
  | transactionCut => exact h.whenDue (fun _ => h.setPort _) e
  | frmFirstQualifiedLevel high =>
    refine h.whenDue (fun _ => ?_) e
    split
    · exact h.congr rfl rfl
    · exact h.qualifyFrm high

theorem idle (h : StationFits s) : StationFits s.idle := by
  unfold State.idle
  split
  · exact h.congr s.tick_place (by simp)
  · exact h.setPending _
  · exact h.congr rfl rfl

theorem step {t : State} (h : StationFits s) (e : step s = .next t) : StationFits t := by
  unfold Machine.step at e
  split at e
  · exact (h.setPending _).exec _ e
  · exact StationFits.done h.idle e

end StationFits
end Sys2Proof.Machine

open Sys2Proof.Machine in
/-- Settles O56: `StationFits` is kept by every row and by time. -/
theorem stationKeepsItsPlaceInTheGroup : Obligations.StationKeepsItsPlaceInTheGroup :=
  fun _ _ h e => h.step e
end

section
/-! ## Rows that do nothing, and time -/

namespace Sys2Proof.Machine

theorem whenDue_of_true {b : Bool} (h : b = true) (s after : State) : whenDue b s after = .next after := by
  simp [whenDue, h]

theorem whenDue_of_false {b : Bool} (h : b = false) (s after : State) : whenDue b s after = .next s := by
  simp [whenDue, h]

/-- In SETUP nothing of the line, the gates or the monitor is due: each condition asks for a started station, a state of
the group, LISTEN or FAULT, a part in the barrier or a pulse (R1, R79). -/
theorem exec_event_in_setup {s : State} (hs : s.ctl.state = .setup) (ht : s.frame.takingPart = false)
    (hp : s.gen.inFlight = false) (c : Instr) (hc : c.isEvent = true) : exec c s = .next s := by
  have hstarted : s.started = false := by simp [State.started, hs]
  cases c with
  | frameStart => exact whenDue_of_false (by simp [State.riseCan, hstarted]) _ _
  | frameFallingEdge => exact whenDue_of_false (by simp [State.fallCan, hstarted]) _ _
  | markClassified => exact whenDue_of_false (by simp [State.markDue, State.follows, hs, ht]) _ _
  | pullPoint => exact whenDue_of_false (by simp [State.pullDue, ht]) _ _
  | ownEnd => exact whenDue_of_false (by simp [State.ownEndDue, ht]) _ _
  | stuck => exact whenDue_of_false (by simp [State.stuckDue, ht]) _ _
  | listenStuckDeclared => exact whenDue_of_false (by simp [State.listenStuckDue, hs]) _ _
  | founding => exact whenDue_of_false (by simp [State.foundingDue, hs]) _ _
  | freeRunFrame => exact whenDue_of_false (by simp [State.freeRunDue, State.faultEnded, hs]) _ _
  | drivePoint => exact whenDue_of_false (by simp [State.driveDue, ht]) _ _
  | bitTime x => exact whenDue_of_false (by simp [State.bitDue, State.sampling, ht]) _ _
  | wordClose => exact whenDue_of_false (by simp [State.closeCan, ht]) _ _
  | housekeepingPace => exact whenDue_of_false (by simp [State.paceDue, hs]) _ _
  | warmUpComplete => exact whenDue_of_false (by simp [State.warmDue, hs]) _ _
  | leadPoint => exact whenDue_of_false (by unfold State.leadDue; split <;> simp [hs]) _ _
  | onPoint =>
    have hon : s.onDue = false := by unfold State.onDue; split <;> simp [hs]
    have howed : s.pointOwed = false := by simp [State.pointOwed, hs]
    simp [exec_onPoint, hon, howed]
  | pulseEnd => exact whenDue_of_false (by simp [State.pulseEndDue, hp]) _ _
  | deadTimeRunOut => exact whenDue_of_false (by simp [State.lgDue, hs]) _ _
  | currentTrigger => exact whenDue_of_false (by simp [State.triggerDue, hp]) _ _
  | ociAssert => exact whenDue_of_false (by simp [State.ociCan, hstarted]) _ _
  | conversionComplete code => exact whenDue_of_false (by unfold State.conversionDue; split <;> simp [hstarted]) _ _
  | dmdActiveEdge => exact whenDue_of_false (by simp [State.activeCan, hstarted]) _ _
  | dmdInactiveEdge => exact whenDue_of_false (by simp [State.inactiveCan, hstarted]) _ _
  | dmdTimeout => exact whenDue_of_false (by simp [State.timeoutDue, hstarted]) _ _
  | frmFirstQualifiedLevel high => exact whenDue_of_false (by simp [State.firstLevelCan, hstarted]) _ _
  | _ => simp [Instr.isEvent] at hc

/-- On an empty queue a step is what the station does by itself (log 1). -/
theorem step_of_pending_nil {s : State} (h : s.pending = []) : step s = .next s.idle := by
  unfold step
  split
  next hp => simp [hp] at h
  next => rfl

theorem State.dueEvents_in_setup {s : State} (hs : s.ctl.state = .setup) : s.dueEvents = [] := by
  simp [State.dueEvents, State.started, hs]

theorem State.idle_of_none_due {s : State} (h : s.dueEvents = []) : s.idle = s.tick := by
  simp [State.idle, h]

theorem State.idle_of_one_due {s : State} {c : Instr} (h : s.dueEvents = [c]) : s.idle = s.setPending [c] := by
  simp [State.idle, h]

/-- Of several due events the one chosen is among them (log 5). -/
theorem State.idle_of_several_due {s : State} {c d : Instr} {rest : List Instr} (h : s.dueEvents = c :: d :: rest) :
    ∃ e ∈ s.dueEvents, s.idle = { s with pending := [e], choices := s.choices + 1 } := by
  refine ⟨(c :: d :: rest).getD (Config.takenFirst s.choices % (c :: d :: rest).length) c, ?_, ?_⟩
  · rw [h, List.getD_eq_getElem _ _ (Nat.mod_lt _ (by simp))]
    exact List.getElem_mem _
  · simp [State.idle, h, State.chooseFirst]

end Sys2Proof.Machine

open Sys2Proof Sys2Proof.Machine

/-- Settles O5: in SETUP the condition of every event row is false. -/
theorem eventsChangeNothingInSetup : Obligations.EventsChangeNothingInSetup :=
  fun c _ hc hs ht hp => exec_event_in_setup hs ht hp c hc

/-- Settles O6: every field is the one of the reset state. -/
theorem resetPutsEveryBlockBack : Obligations.ResetPutsEveryBlockBack := fun s => by
  refine ⟨s.resetBlocks, rfl, rfl, ?_⟩
  simp [State.resetBlocks, State.reset, Controller.reset, FrameUnit.reset, ExchangeUnit.reset, RosterUnit.emptied,
    PhaseGenerator.reset, MeasurementUnit.reset, DemandMonitor.reset, PortUnit.reset, Filter.empty, Timer.stopped]

/-- Settles O4: one count is the tick of every block, each by its own equation. -/
theorem emptyQueueRunsTheStation : Obligations.EmptyQueueRunsTheStation := by
  intro s hq
  rw [step_of_pending_nil hq]
  refine ⟨fun hs => ?_, fun hs hd => ?_, fun c hd => ?_, fun c d rest hd => ?_⟩
  · simp [State.idle_of_none_due (State.dueEvents_in_setup hs), State.tick, State.started, hs]
  · have hstarted : s.started = true := by simpa [State.started] using hs
    simp only [State.idle_of_none_due hd, State.tick, hstarted, if_true, State.sampleShr_eq, FrameUnit.tick,
      PhaseGenerator.tick, MeasurementUnit.tick, DemandMonitor.tick, Filter.take_eq, Filter.settleQuiet_oci,
      Filter.settleQuiet_dmd]
    rfl
  · rw [State.idle_of_one_due hd]; rfl
  · obtain ⟨e, he, heq⟩ := State.idle_of_several_due hd
    exact ⟨e, he, by rw [heq]⟩
end

section
/-! ## The barrier: pulling, the own end, STUCK, founding and alignment -/

namespace Sys2Proof.Machine

theorem Timer.reached_iff {t : Timer} {n : Nat} : t.reached n = true ↔ t.running = true ∧ n ≤ t.count := by
  simp [Timer.reached]

theorem exec_markClassified_of_due {s : State} (h : s.markDue = true) : exec .markClassified s = .next s.classifyMark :=
  whenDue_of_true h _ _

theorem exec_founding_of_due {s : State} (hl : s.ctl.state = .listen) (hr : s.frame.quietTimer.running = true)
    (hq : (3 + s.code) * s.frameLen ≤ s.frame.quietTimer.count) : exec .founding s = .next s.found :=
  whenDue_of_true (by simp [State.foundingDue, hl, Timer.reached_iff, hr, State.quietTime, hq]) _ _

/-- An armed listener aligns on a mark (R23). -/
theorem State.classifyMark_of_armed {s : State} (hl : s.ctl.state = .listen) (ha : s.frame.armed = true) :
    s.classifyMark = (s.setFrame { s.frame with classed := .mark }).align := by
  simp [State.classifyMark, hl, ha]

theorem State.classifyMark_of_unarmed {s : State} (hl : s.ctl.state = .listen) (ha : s.frame.armed = false) :
    s.classifyMark = s.setFrame { s.frame with classed := .mark } := by
  simp [State.classifyMark, hl, ha]

theorem State.markDue_of_listen {s : State} (hl : s.ctl.state = .listen) (hc : s.frame.classed = .opened)
    (hn : s.frame.counter = 32) (hv : s.frame.filter.level = some true) : s.markDue = true := by
  simp [State.markDue, State.follows, hl, hc, hn, hv]

/-! The entry to CHECK block by block (R58, R82, R85). -/

theorem State.startCheck_frame (s : State) :
    s.startCheck.frame = { s.frame.leaveListen with markThis := false, markLast := false } := by
  rw [State.startCheck_eq]; split <;> simp [State.enterCheck]

theorem State.startCheck_roster (s : State) : s.startCheck.roster = RosterUnit.emptied := by
  rw [State.startCheck_eq]; split <;> simp [State.enterCheck]

theorem State.startCheck_ctl (s : State) :
    s.startCheck.ctl
      = { s.ctl.calm with
          state := if s.ctl.causes.isEmpty then .check else .aside
          decided := none
          bias := if s.ctl.causes.isEmpty then s.ctl.bias else true } := by
  rw [State.startCheck_eq]; split <;> simp_all [State.enterCheck, State.enterAside_ctl, Controller.calm]

theorem State.startCheck_gen (s : State) :
    s.startCheck.gen = if s.ctl.causes.isEmpty then s.gen else s.gen.stop := by
  rw [State.startCheck_eq]; split <;> simp [State.enterCheck, State.enterAside_gen]

theorem State.startCheck_meas (s : State) :
    s.startCheck.meas
      = if s.ctl.causes.isEmpty then { s.meas with pace := Timer.stopped }
        else { s.meas.leaveActive with pace := Timer.stopped } := by
  rw [State.startCheck_eq]
  split <;> simp [State.enterCheck, State.enterAside_meas, MeasurementUnit.leaveActive]

/-- The immediate stop keeps the copies of rank and N_active. -/
theorem PhaseGenerator.stop_schedule (g : PhaseGenerator) : g.stop.rank = g.rank ∧ g.stop.nActive = g.nActive :=
  ⟨rfl, rfl⟩

/-- The generator a rejoin leaves (R31, R117). -/
theorem PhaseGenerator.rejoin_eq (g : PhaseGenerator) :
    g.rejoin
      = { g with
          rank := none, nActive := none, onPoint := none, leadWindow := false, duty := 0, ramp := 0
          ocRun := 0, inFlight := false, remaining := 0, hg := false, lg := false
          owedCut := false, owedPoint := false
          deadTimer := if g.hg = true ∨ g.lg = true then some 0 else g.deadTimer } := by
  cases hh : g.hg <;> cases hl : g.lg <;>
    simp [PhaseGenerator.rejoin, PhaseGenerator.stop, PhaseGenerator.unschedule, PhaseGenerator.switchLgOff,
      PhaseGenerator.endPulse, PhaseGenerator.switchHgOff, hh, hl]

/-- The stuck timer starts at 0 on a low line and stands on a high one (R15). -/
theorem State.startStuck_eq (s : State) :
    s.startStuck
      = s.setFrame
        { s.frame with
          stuckTimer := if s.frame.filter.level = some false then Timer.started else s.frame.stuckTimer } := by
  unfold State.startStuck; split <;> rfl

/-- The frame in progress is announced (R90). -/
theorem State.announcedFrame_iff {s : State} :
    s.announcedFrame = true ↔ s.ctl.state = .fault ∧ s.ctl.haltWord = true ∧ s.frame.index = some 0 := by
  simp [State.announcedFrame, and_assoc]

/-! Nominal words (R137, R139, R140). -/

theorem exec_freeRunFrame_of_due {s : State} (h : s.freeRunDue = true) :
    exec .freeRunFrame s
      = .next
        (if 30 ≤ s.meas.freeFrames + 1 then
          ((s.setFrame { s.frame with counter := 0 }).setMeas { s.meas with freeFrames := 0 }).stepTally
         else (s.setFrame { s.frame with counter := 0 }).setMeas
          { s.meas with freeFrames := s.meas.freeFrames + 1 }) :=
  whenDue_of_true h _ _

/-- An idle converter starts the head of its queue, a busy one goes on (R140). -/
theorem MeasurementUnit.startNext_eq (m : MeasurementUnit) :
    m.startNext
      = { m with
          conv :=
            match m.conv with
            | some c => some c
            | none => m.queue.head?.map Conversion.begin } := by
  obtain ⟨conv, queue⟩ := m
  cases conv <;> cases queue <;> rfl

theorem State.stepTally_of_lt {s : State} (h : s.meas.tally + 1 < s.port.config.hkWords.toNat) :
    s.stepTally = s.setMeas { s.meas with tally := s.meas.tally + 1 } := if_neg (by omega)

/-- The tally that reaches HK_WORDS makes the request, and HK_LATE tells of a channel still queued (R139). -/
theorem State.stepTally_of_le {s : State} (h : s.port.config.hkWords.toNat ≤ s.meas.tally + 1) :
    s.stepTally
      = (s.setMeas
          { s.meas with
            tally := 0
            queue := s.meas.queue ++ [Channel.tsns, Channel.vsns].filter (fun ch => !s.meas.queue.contains ch)
            conv :=
              match s.meas.conv with
              | some c => some c
              | none =>
                (s.meas.queue ++ [Channel.tsns, Channel.vsns].filter
                  (fun ch => !s.meas.queue.contains ch)).head?.map Conversion.begin }).setPort
          (if Channel.tsns ∈ s.meas.queue ∨ Channel.vsns ∈ s.meas.queue then s.port.raise .hkLate else s.port) := by
  unfold State.stepTally
  rw [if_pos h]
  unfold MeasurementUnit.request State.raiseIf
  rw [MeasurementUnit.startNext_eq]
  simp only [MeasurementUnit.requestLate, Bool.or_eq_true, List.contains_iff_mem]
  split <;> rfl


end Sys2Proof.Machine

open Sys2Proof Sys2Proof.Machine

/-- Settles O8: the pull point by its count, a start in the middle of a frame by the entry to CHECK. -/
theorem pullPointPullsTheLine : Obligations.PullPointPullsTheLine := by
  refine ⟨fun s i ht hi hn => ?_, fun s hl hc hn hv ha => ?_, fun s hl hr hq => ?_⟩
  · have hpoint : s.frame.counter = s.frame.pullPoint := by
      simp only [FrameUnit.pullPoint, hn, hi, Option.some.injEq]
    rw [exec_pullPoint]
    cases hp : s.frame.pulling with
    | false => simp [State.pullDue, ht, hpoint, hp, State.setFrame]
    | true =>
      have hsame : { s.frame with pulling := true } = s.frame := by rw [← hp]
      simp [State.pullDue, hp, hsame]
  · refine ⟨_, exec_markClassified_of_due (State.markDue_of_listen hl hc hn hv), ?_⟩
    rw [State.classifyMark_of_armed hl ha]
    simp [State.align, State.startCheck_frame, FrameUnit.leaveListen, FrameUnit.joinBarrier]
  · refine ⟨_, exec_founding_of_due hl hr hq, ?_⟩
    simp [State.found, State.startCheck_frame, FrameUnit.leaveListen, FrameUnit.joinBarrier]

/-- Settles O14: the entry to CHECK block by block, with and without an aside cause. -/
theorem markAlignsAnArmedListener : Obligations.MarkAlignsAnArmedListener := by
  intro s hl hc hn hv
  have hexec := exec_markClassified_of_due (State.markDue_of_listen hl hc hn hv)
  refine ⟨fun ha => ?_, fun ha => ⟨_, hexec, ?_⟩⟩
  · rw [hexec, State.classifyMark_of_unarmed hl ha]; rfl
  · rw [State.classifyMark_of_armed hl ha]
    simp only [State.align, State.startCheck_frame, State.startCheck_roster, State.startCheck_ctl,
      State.startCheck_gen, State.startCheck_meas]
    cases he : s.ctl.causes.isEmpty <;>
      simp [he, FrameUnit.leaveListen, FrameUnit.joinBarrier, ExchangeUnit.cleared, ExchangeUnit.reset,
        RosterUnit.emptied, Controller.calm, MeasurementUnit.leaveActive, Timer.stopped, PhaseGenerator.stop_schedule,
        PhaseGenerator.stop_gates]

/-- Settles O17, by the same entry to CHECK. -/
theorem foundingPullsTheLine : Obligations.FoundingPullsTheLine := by
  intro s hl hr hq
  refine ⟨_, exec_founding_of_due hl hr hq, ?_⟩
  simp only [State.found, State.startCheck_frame, State.startCheck_roster, State.startCheck_ctl, State.startCheck_meas]
  cases he : s.ctl.causes.isEmpty <;>
    simp [he, FrameUnit.leaveListen, FrameUnit.joinBarrier, ExchangeUnit.cleared, ExchangeUnit.reset,
      RosterUnit.emptied, Controller.calm, MeasurementUnit.leaveActive, Timer.stopped]

/-- Settles O15: the rejoin outside FAULT, the end of the part in FAULT. -/
theorem stuckLeavesTheBarrier : Obligations.StuckLeavesTheBarrier := by
  intro s ht hr hn
  have hdue : s.stuckDue = true := by simp [State.stuckDue, ht, Timer.reached_iff, hr, hn]
  dsimp only
  rw [exec_stuck, if_pos hdue, ← PhaseGenerator.rejoin_eq]
  refine ⟨fun hf => ?_, fun hf => ?_⟩
  · rw [if_neg hf]; rfl
  · rw [if_pos hf]; rfl

/-- Settles O9: which of the three ends of OWN_END a station takes, and what each leaves. -/
theorem ownEndReleasesTheLine : Obligations.OwnEndReleasesTheLine := by
  intro s ht hn ho
  have hdue : s.ownEndDue = true := by simp [State.ownEndDue, ht, hn, ho]
  dsimp only
  rw [exec_ownEnd, if_pos hdue]
  have hreleased : s.releaseFrm.startStuck
      = { s with
          frame :=
            { s.frame with
              ownEnd := true
              pulling := false
              stuckTimer := if s.frame.filter.level = some false then ⟨true, 0⟩ else s.frame.stuckTimer } } := by
    rw [State.startStuck_eq]; rfl
  refine ⟨fun h => ?_, fun hf hc => ?_, fun hf hc ha hw => ?_, fun hf hc ha hw => ?_⟩
  · have hwd : s.withdrawing = false := by
      rcases h with h | ⟨h, -⟩ <;> simp [State.withdrawing, h]
    have han : s.announcedFrame = false := by
      rw [Bool.eq_false_iff, ne_eq, State.announcedFrame_iff]
      rintro ⟨hf, ha⟩
      rcases h with h | ⟨-, h⟩
      · exact h hf
      · exact h ha
    simp only [hwd, han, hreleased, Bool.false_eq_true, if_false]
  · have hwd : s.withdrawing = true := by simp [State.withdrawing, hf, hc]
    rw [if_pos hwd]; rfl
  · have hwd : s.withdrawing = false := by simp [State.withdrawing, hc]
    have han : s.announcedFrame = true := State.announcedFrame_iff.mpr ⟨hf, ha⟩
    have hend : s.releaseFrm.announceEnd
        = (s.releaseFrm.setCtl { s.ctl with announce := s.ctl.announce - 1, haltWord := false }).endPart := if_pos hw
    have hzero : s.ctl.announce - 1 = 0 := by omega
    simp only [hwd, han, hend, hzero, Bool.false_eq_true, if_false, if_true]
    rfl
  · have hwd : s.withdrawing = false := by simp [State.withdrawing, hc]
    have han : s.announcedFrame = true := State.announcedFrame_iff.mpr ⟨hf, ha⟩
    have hend : s.releaseFrm.announceEnd
        = (s.releaseFrm.setCtl { s.ctl with announce := s.ctl.announce - 1, haltWord := false }).startStuck :=
      if_neg (Nat.not_le.mpr hw)
    simp only [hwd, han, hend, State.startStuck_eq, Bool.false_eq_true, if_false, if_true]
    rfl

/-- Settles O40: the step of the tally below HK_WORDS and at it. -/
theorem nominalWordsStepTheTally : Obligations.NominalWordsStepTheTally := by
  intro s
  dsimp only
  refine ⟨fun hl hr hn => ?_, fun hf ht hn => ?_⟩
  · have hdue : s.paceDue = true := by simp [State.paceDue, hl, Timer.reached_iff, hr, hn]
    rw [exec_housekeepingPace, if_pos hdue]
    refine ⟨fun hk => ?_, fun hk => ?_⟩
    · rw [State.stepTally_of_lt]
      · rfl
      · exact hk
    · rw [State.stepTally_of_le]
      · rfl
      · exact hk
  · have hdue : s.freeRunDue = true := by simp [State.freeRunDue, State.faultEnded, hf, ht, hn]
    refine ⟨fun hk => ?_, fun h29 hk => ?_, fun h29 hk => ?_⟩
    · rw [exec_freeRunFrame_of_due hdue, if_neg (by omega)]; rfl
    · rw [exec_freeRunFrame_of_due hdue, if_pos (by omega), State.stepTally_of_lt]
      · rfl
      · exact hk
    · rw [exec_freeRunFrame_of_due hdue, if_pos (by omega), State.stepTally_of_le]
      · rfl
      · exact hk
end

section
/-! ## When the events are due -/

namespace Sys2Proof.Machine

/-- The lead point is due at its count, once in a frame (R118). -/
theorem State.leadDue_iff {s : State} :
    s.leadDue = true ↔ s.ctl.state = .active ∧ s.gen.leadTaken = false
      ∧ ∃ p, s.gen.onPoint = some p
        ∧ s.frame.counter = (if s.dead ≤ p then p - s.dead else s.frameLen - s.dead + p) := by
  unfold State.leadDue leadCount
  cases s.gen.onPoint <;> simp [and_assoc]

theorem State.onDue_iff {s : State} :
    s.onDue = true ↔ s.ctl.state = .active ∧ s.gen.onTaken = false ∧ s.gen.onPoint = some s.frame.counter := by
  unfold State.onDue
  cases s.gen.onPoint with
  | none => simp
  | some p => simp [and_assoc, @eq_comm _ p]

theorem State.conversionDue_iff {s : State} (hs : s.started = true) :
    s.conversionDue = true ↔ ∃ c, s.meas.conv = some c ∧ c.timer = 40 := by
  unfold State.conversionDue
  cases s.meas.conv <;> simp [hs]

theorem State.heldCode_of_conv {s : State} {c : Conversion} (hc : s.meas.conv = some c) : s.heldCode = c.held := by
  simp [State.heldCode, hc]

end Sys2Proof.Machine

open Sys2Proof Sys2Proof.Machine

/-- Settles O16: an event is due exactly when its entry of `State.events` is, each by its own condition. -/
theorem eventsComeDueAtTheirInstants : Obligations.EventsComeDueAtTheirInstants := by
  intro s hs
  have hstarted : s.started = true := by simpa [State.started] using hs
  have hm := s.mem_dueEvents hstarted
  dsimp only
  refine ⟨?_, ?_, ?_, ?_, ?_, ?_, ?_, ?_, ?_, ?_, ?_, ?_, ?_, ?_, ?_, ?_, ?_, ?_, ?_, ?_, ?_, ?_, ?_, ?_, ?_⟩
  · intro v
    cases v <;> simp [hm, State.events, State.firstLevelCan, State.frmTurns, Filter.turns_iff, hstarted]
  · simp [hm, State.events, State.riseCan, State.frmTurns, Filter.turns_iff, hstarted]
  · simp [hm, State.events, State.fallCan, State.frmTurns, Filter.turns_iff, hstarted]
  · simp [hm, State.events, State.markDue, State.follows, and_assoc]
  · simp [hm, State.events, State.pullDue, FrameUnit.pullPoint, and_assoc]
  · simp [hm, State.events, State.ownEndDue, and_assoc]
  · simp [hm, State.events, State.stuckDue, Timer.reached_iff]
  · simp [hm, State.events, State.listenStuckDue, Timer.reached_iff]
  · simp [hm, State.events, State.foundingDue, Timer.reached_iff, State.quietTime]
  · simp [hm, State.events, State.freeRunDue, State.faultEnded, and_assoc]
  · simp [hm, State.events, State.driveDue, and_assoc, Option.isSome_iff_ne_none]
  · simp [hm, State.events, State.bitDue, State.sampling, State.shrBit, and_assoc]
  · simp [hm, State.events, State.closeCan, and_assoc]
  · simp [hm, State.events, State.paceDue, Timer.reached_iff]
  · simp [hm, State.events, State.warmDue, and_assoc]
  · simp [hm, State.events, State.leadDue_iff]
  · simp [hm, State.events, State.onDue_iff, State.pointOwed]
  · simp [hm, State.events, State.pulseEndDue, and_assoc]
  · simp [hm, State.events, State.lgDue, and_assoc]
  · simp [hm, State.events, State.triggerDue, and_assoc]
  · simp [hm, State.events, State.ociCan, Filter.turns_iff, hstarted]
  · intro k
    have hk : (Instr.conversionComplete k ∈ s.dueEvents) ↔ s.conversionDue = true ∧ k = s.heldCode := by
      simp [hm, State.events]
    rw [hk, State.conversionDue_iff hstarted]
    constructor
    · rintro ⟨⟨c, hc, ht⟩, rfl⟩
      exact ⟨c, hc, ht, (State.heldCode_of_conv hc).symm⟩
    · rintro ⟨c, hc, ht, rfl⟩
      exact ⟨⟨c, hc, ht⟩, (State.heldCode_of_conv hc).symm⟩
  · simp [hm, State.events, State.activeCan, Filter.turns_iff, hstarted]
  · simp [hm, State.events, State.inactiveCan, Filter.turns_iff, hstarted]
  · simp [hm, State.events, State.timeoutDue, hstarted]
end

section
/-! ## The frame start -/

namespace Sys2Proof.Machine

/-- Only the frame after frame 29 is a frame 0 (R3). -/
theorem opens_no_word : ∀ i : Fin 30, i ≠ 29 → (i + 1 == 0) = false := by decide

/-! Its parts, each as one update. -/

theorem State.resumeLg_eq (s : State) :
    s.resumeLg
      = s.setGen
        { s.gen with
          lg :=
            s.gen.lg || (s.ctl.state == .active && !s.gen.hg && s.gen.deadTimer.isNone && !s.gen.leadWindow) } := by
  unfold State.resumeLg
  split
  next ha => simp [PhaseGenerator.resumeLg, ha]
  next ha => simp [State.setGen, beq_eq_false_iff_ne.mpr ha]

theorem State.warmRise_eq (s : State) :
    s.warmRise
      = s.setCtl
        { s.ctl with
          warmCount :=
            if s.ctl.state = .warming then min s.port.config.warmFrames.toNat (s.ctl.warmCount + 1)
            else s.ctl.warmCount } := by
  unfold State.warmRise; split <;> rfl

/-- The wait-run after the frame just ended, before its restart at 8 (R14). -/
def State.runAfter (s : State) : Nat :=
  if s.port.config.lagMax.toNat < s.frame.counter - s.frameLen then s.frame.waitRun + 1 else 0

theorem State.takeWait_eq (s : State) :
    s.takeWait
      = (s.setFrame
        { s.frame with
          lastLength := s.frame.counter
          lastWait := if s.frame.ownEnd then s.frame.counter - s.frameLen else s.frame.lastWait
          waitRun :=
            if s.frame.ownEnd then (if 8 ≤ s.runAfter then 0 else s.runAfter) else s.frame.waitRun }).setPort
        (if s.frame.ownEnd = true ∧ 8 ≤ s.runAfter then s.port.raise .groupWait else s.port) := by
  unfold State.takeWait
  by_cases ho : s.frame.ownEnd = true
  · by_cases hr : 8 ≤ s.runAfter
    · have hr' : 8 ≤ waitRunAfter (s.frame.counter - s.frameLen) s.port.config.lagMax.toNat s.frame.waitRun := hr
      simp [ho, hr, hr', State.raiseIf]
      rfl
    · have hr' : ¬ 8 ≤ waitRunAfter (s.frame.counter - s.frameLen) s.port.config.lagMax.toNat s.frame.waitRun := hr
      simp [ho, hr, hr', State.raiseIf]
      rfl
  · simp [ho, State.setPort, State.setFrame]

/-- The state at a frame start between the count of the frame just ended and the word of the new one. -/
def State.counted (s : State) (i : Fin 30) : State :=
  ((s.takeWait.setFrame (s.takeWait.frame.restart i)).setExch
    (s.takeWait.exch.newFrame (i + 1 == 0))).rampRise.warmRise

theorem State.startFrame_eq (s : State) (i : Fin 30) :
    s.startFrame i = ((s.counted i).wordStart (i + 1 == 0)).resumeLg := rfl

/-- What the frame unit, the exchange unit, the generator, the controller and the flags show then (R3, R13, R14, R105,
R116). -/
theorem State.counted_eq (s : State) (i : Fin 30) :
    s.counted i
      = { s with
          frame :=
            { s.frame with
              counter := 0
              index := some (i + 1)
              ownEnd := false
              stuckTimer := ⟨false, 0⟩
              lastLength := s.frame.counter
              lastWait := if s.frame.ownEnd then s.frame.counter - s.frameLen else s.frame.lastWait
              waitRun :=
                if s.frame.ownEnd then (if 8 ≤ s.runAfter then 0 else s.runAfter) else s.frame.waitRun
              classed := .opened
              checked := true }
          exch := s.exch.newFrame (i + 1 == 0)
          gen :=
            { s.gen with
              leadTaken := false
              onTaken := false
              ramp :=
                if s.ctl.state = .active then min s.dutyMax (s.gen.ramp + s.port.config.ramp.toNat)
                else s.gen.ramp }
          ctl :=
            { s.ctl with
              warmCount :=
                if s.ctl.state = .warming then min s.port.config.warmFrames.toNat (s.ctl.warmCount + 1)
                else s.ctl.warmCount }
          port := if s.frame.ownEnd = true ∧ 8 ≤ s.runAfter then s.port.raise .groupWait else s.port } := by
  have hconfig : (if s.frame.ownEnd = true ∧ 8 ≤ s.runAfter then s.port.raise .groupWait else s.port).config
      = s.port.config := by split <;> rfl
  simp only [State.counted, State.warmRise_eq, State.rampRise, State.takeWait_eq, State.dutyMax, State.setPort_port,
    State.setFrame_port, State.setExch_port, State.setGen_port, hconfig]
  rfl

/-- What is left of a frame start once a cut bit is judged and a due close is taken (R3, R9). -/
def State.riseTail (s : State) : State :=
  match s.frame.index with
  | some i => if s.withdrawing then s.openHigh.endPart else s.startFrame i
  | none => s

theorem State.alignedRise_eq (s : State) : s.alignedRise = s.judgeCutFrame.takeDueClose.riseTail := rfl

theorem State.riseTail_of_index {s : State} {i : Fin 30} (hi : s.frame.index = some i) :
    s.riseTail = if s.withdrawing then s.openHigh.endPart else s.startFrame i := by
  simp [State.riseTail, hi]

theorem State.withdrawing_iff {s : State} :
    s.withdrawing = true ↔ s.ctl.state = .fault ∧ s.ctl.faultCause = some .duplicate := by
  simp [State.withdrawing]

/-- The frame start of a station that takes part begins with the qualified level (R1, R3). -/
theorem exec_frameStart_of_takingPart {s : State} (hs : s.started = true) (hv : s.frame.filter.level = some false)
    (ht : s.frame.takingPart = true) (hl : s.ctl.state ≠ .listen) :
    exec .frameStart s = .next (s.qualifyFrm true).alignedRise := by
  have hc : s.riseCan = true := by simp [State.riseCan, hs, hv]
  rw [exec_frameStart, if_pos hc, if_neg hl, if_pos ht]

/-- A frame whose bit is judged, or that belongs to no word, is not cut. -/
theorem State.judgeCutFrame_of_whole {s : State} (hw : s.exch.wordOpen = false ∨ 4 ≤ s.exch.samples.length) :
    s.judgeCutFrame = s := by
  refine if_neg ?_
  rcases hw with hw | hw <;> simp [State.sampling, hw]

/-- A frame that was not cut short, with no close due. -/
theorem State.alignedRise_of_whole {s : State} (hw : s.exch.wordOpen = false ∨ 4 ≤ s.exch.samples.length)
    (hd : s.exch.closeDue = false) : s.alignedRise = s.riseTail := by
  rw [State.alignedRise_eq, State.judgeCutFrame_of_whole hw, State.takeDueClose, hd]
  rfl

end Sys2Proof.Machine

open Sys2Proof Sys2Proof.Machine

/-- Settles O10: no bit is cut and no close due, so the frame start is `State.counted` with no word begun. -/
theorem frameStartOpensTheNextFrame : Obligations.FrameStartOpensTheNextFrame := by
  intro s i hs hv ht hl hi hw hd hf hne
  have hwd : ¬(s.qualifyFrm true).withdrawing = true := fun h => hf (State.withdrawing_iff.mp h)
  rw [exec_frameStart_of_takingPart hs hv ht hl, State.alignedRise_of_whole (by exact hw) (by exact hd),
    State.riseTail_of_index (i := i) (by exact hi), if_neg hwd, State.startFrame_eq, State.resumeLg_eq,
    State.counted_eq, opens_no_word i hne]
  simp only [State.wordStart, ExchangeUnit.newFrame, Bool.or_false, Bool.false_eq_true, if_false]
  rfl
end

section
/-! ## The frame start of frame 0 -/

namespace Sys2Proof.Machine

/-- The generator after the entry to a decided state (R102, R103, R123, R126). -/
def Decision.genAfter (d : Decision) (g : PhaseGenerator) : PhaseGenerator :=
  match d with
  | .active => { g with ramp := 0, duty := 0, ocRun := 0 }
  | .shed => g.rest
  | _ => g.stop

/-- The measurement unit after it (R143, R146, R147). -/
def Decision.measAfter (d : Decision) (m : MeasurementUnit) : MeasurementUnit :=
  match d with
  | .active => m
  | _ => m.leaveActive

theorem State.enterDecision_gen (s : State) (d : Decision) : (s.enterDecision d).gen = d.genAfter s.gen := by
  cases d <;> rfl

theorem State.enterDecision_meas (s : State) (d : Decision) : (s.enterDecision d).meas = d.measAfter s.meas := by
  cases d <;> rfl

theorem State.takeDecided_of_none {s : State} (h : s.ctl.decided = none) : s.takeDecided = s := by
  simp [State.takeDecided, h]

theorem State.takeDecided_of_some {s : State} {d : Decision} (h : s.ctl.decided = some d) :
    s.takeDecided = s.enterDecision d := by
  simp [State.takeDecided, h]

theorem Controller.stateAfter_of_none {c : Controller} (h : c.decided = none) : c.stateAfter = c.state := by
  simp [Controller.stateAfter, h]

theorem Controller.stateAfter_of_some {c : Controller} {d : Decision} (h : c.decided = some d) :
    c.stateAfter = d.entered := by
  cases d <;> simp [Controller.stateAfter, h, Decision.entered]

/-- The decided state is the state a record shows after its close (R49, R78). -/
theorem State.takeDecided_state (s : State) : s.takeDecided.ctl.state = s.ctl.stateAfter := by
  cases h : s.ctl.decided with
  | none => rw [State.takeDecided_of_none h, Controller.stateAfter_of_none h]
  | some d => rw [State.takeDecided_of_some h, Controller.stateAfter_of_some h, State.enterDecision_ctl]

/-- What taking the decided state leaves of the controller. -/
theorem State.takeDecided_ctl (s : State) :
    s.takeDecided.ctl.decided = none ∧ s.takeDecided.ctl.causes = s.ctl.causes
      ∧ s.takeDecided.ctl.request = s.ctl.request ∧ s.takeDecided.ctl.faultCause = s.ctl.faultCause
      ∧ s.takeDecided.ctl.announce = s.ctl.announce := by
  cases h : s.ctl.decided with
  | none => rw [State.takeDecided_of_none h]; exact ⟨h, rfl, rfl, rfl, rfl⟩
  | some d => rw [State.takeDecided_of_some h, State.enterDecision_ctl]; exact ⟨rfl, rfl, rfl, rfl, rfl⟩

/-- What it leaves of the generator: the copies of rank and N_active, the frame's marks and OCI (log 21). -/
theorem State.takeDecided_gen (s : State) :
    s.takeDecided.gen.rank = s.gen.rank ∧ s.takeDecided.gen.nActive = s.gen.nActive
      ∧ s.takeDecided.gen.leadTaken = s.gen.leadTaken ∧ s.takeDecided.gen.onTaken = s.gen.onTaken
      ∧ s.takeDecided.gen.oci = s.gen.oci := by
  cases h : s.ctl.decided with
  | none => rw [State.takeDecided_of_none h]; exact ⟨rfl, rfl, rfl, rfl, rfl⟩
  | some d =>
    rw [State.takeDecided_of_some h, State.enterDecision_gen]
    cases d <;> exact ⟨rfl, rfl, rfl, rfl, rfl⟩

/-- What it leaves of the measurement unit: the converter, its queue and tally, the accumulator and the share. -/
theorem State.takeDecided_meas (s : State) :
    s.takeDecided.meas.queue = s.meas.queue ∧ s.takeDecided.meas.conv = s.meas.conv
      ∧ s.takeDecided.meas.share = s.meas.share ∧ s.takeDecided.meas.accSum = s.meas.accSum
      ∧ s.takeDecided.meas.accCount = s.meas.accCount ∧ s.takeDecided.meas.tally = s.meas.tally := by
  cases h : s.ctl.decided with
  | none => rw [State.takeDecided_of_none h]; exact ⟨rfl, rfl, rfl, rfl, rfl, rfl⟩
  | some d =>
    rw [State.takeDecided_of_some h, State.enterDecision_meas]
    cases d <;> exact ⟨rfl, rfl, rfl, rfl, rfl, rfl⟩

/-- A station that holds or enters ACTIVE keeps its gates and its lead window (R121). -/
theorem State.takeDecided_gates_of_active {s : State} (ha : s.ctl.stateAfter = .active) :
    s.takeDecided.gen.leadWindow = s.gen.leadWindow ∧ s.takeDecided.gen.hg = s.gen.hg
      ∧ s.takeDecided.gen.lg = s.gen.lg ∧ s.takeDecided.gen.deadTimer = s.gen.deadTimer := by
  cases h : s.ctl.decided with
  | none => rw [State.takeDecided_of_none h]; exact ⟨rfl, rfl, rfl, rfl⟩
  | some d =>
    rw [Controller.stateAfter_of_some h] at ha
    obtain rfl : d = .active := by cases d <;> simp_all [Decision.entered]
    rw [State.takeDecided_of_some h, State.enterDecision_gen]
    exact ⟨rfl, rfl, rfl, rfl⟩

/-- The schedule the start of frame 0 copies: its on-point (R112). -/
def State.newOnPoint (s : State) : Option Nat :=
  if s.takeDecided.ctl.state = .active then onPointOf s.roster.rank s.roster.nActive s.frameLen else none

theorem State.newOnPoint_eq_none {s : State}
    (h : s.ctl.stateAfter ≠ .active ∨ s.roster.rank = none ∨ ∃ r, s.roster.rank = some r ∧ s.roster.nActive ≤ r) :
    s.newOnPoint = none := by
  unfold State.newOnPoint
  rw [State.takeDecided_state]
  rcases h with h | h | ⟨r, hr, hn⟩
  · exact if_neg h
  · simp [onPointOf, h]
  · simp [onPointOf, hr, Nat.not_lt.mpr hn]

theorem State.newOnPoint_of_lt {s : State} {r : Nat} (ha : s.ctl.stateAfter = .active) (hr : s.roster.rank = some r)
    (hn : r < s.roster.nActive) : s.newOnPoint = some (r * s.frameLen / s.roster.nActive) := by
  simp [State.newOnPoint, State.takeDecided_state, ha, onPointOf, hr, hn]

/-- The controller at the start of frame 0: the decided state, and an announced word in FAULT alone (R78, R90). -/
theorem State.wordStart_ctl (s : State) :
    (s.wordStart true).resumeLg.ctl
      = { s.takeDecided.ctl with
          haltWord := s.takeDecided.ctl.state == .fault && decide (0 < s.takeDecided.ctl.announce) } := by
  simp [State.wordStart]

theorem State.wordStart_meas (s : State) :
    (s.wordStart true).resumeLg.meas
      = { s.takeDecided.meas with
          wholeWord := s.takeDecided.meas.wholeWord || s.takeDecided.ctl.state == .active } := by
  simp [State.wordStart, State.swapSchedule]

/-- The generator after the schedule swap and R121. -/
theorem State.wordStart_gen (s : State) :
    (s.wordStart true).resumeLg.gen
      = { s.takeDecided.gen with
          rank := if s.takeDecided.copiesSchedule then s.roster.rank else s.takeDecided.gen.rank
          nActive := if s.takeDecided.copiesSchedule then some s.roster.nActive else s.takeDecided.gen.nActive
          onPoint := s.newOnPoint
          leadWindow := s.takeDecided.gen.leadWindow && s.newOnPoint.isSome
          lg :=
            s.takeDecided.gen.lg
              || (s.takeDecided.ctl.state == .active && !s.takeDecided.gen.hg
                && s.takeDecided.gen.deadTimer.isNone
                && !(s.takeDecided.gen.leadWindow && s.newOnPoint.isSome)) } := by
  have hlen : s.takeDecided.frameLen = s.frameLen := by simp [State.frameLen]
  simp only [State.resumeLg_eq, State.wordStart, State.swapSchedule, State.newOnPoint, State.copiesSchedule,
    State.setGen_gen, State.setMeas_gen, State.setCtl_ctl, State.setCtl_gen, State.setMeas_ctl, State.setGen_ctl,
    State.setCtl_roster, State.takeDecided_roster, State.setCtl_frameLen, hlen, if_true]
  rfl

end Sys2Proof.Machine

open Sys2Proof Sys2Proof.Machine

/-- Settles O11: what a decided state leaves as it was, then what each decision sets. -/
theorem frameZeroStartTakesTheDecision : Obligations.FrameZeroStartTakesTheDecision := by
  intro s hs hv ht hl hi hw hd hf
  have hwd : ¬(s.qualifyFrm true).withdrawing = true := fun h => hf (State.withdrawing_iff.mp h)
  have hexec : exec .frameStart s = .next ((((s.qualifyFrm true).counted 29).wordStart true).resumeLg) := by
    rw [exec_frameStart_of_takingPart hs hv ht hl, State.alignedRise_of_whole (by exact hw) (by exact hd),
      State.riseTail_of_index (i := 29) (by exact hi), if_neg hwd, State.startFrame_eq]
    rfl
  refine ⟨_, hexec, ?_⟩
  generalize hC : (s.qualifyFrm true).counted 29 = C
  have hctl : C.ctl
      = { s.ctl with
          warmCount :=
            if s.ctl.state = .warming then min s.port.config.warmFrames.toNat (s.ctl.warmCount + 1)
            else s.ctl.warmCount } := by rw [← hC, State.counted_eq]; rfl
  simp only [State.wordStart_ctl, State.wordStart_meas, State.wordStart_gen, State.resumeLg_frame,
    State.wordStart_frame, State.resumeLg_exch, State.wordStart_exch, State.resumeLg_port, State.wordStart_port,
    State.resumeLg_roster, State.wordStart_roster, State.resumeLg_dmd, State.wordStart_dmd, State.resumeLg_straps,
    State.wordStart_straps]
  have hdec : ∀ {d}, s.ctl.decided = some d → C.ctl.decided = some d := by rw [hctl]; exact id
  have hafter : C.ctl.stateAfter = s.ctl.stateAfter := by rw [hctl]; rfl
  have hstate := C.takeDecided_state.trans hafter
  obtain ⟨hnone, hcauses, hrequest, hcause, hannounce⟩ := C.takeDecided_ctl
  obtain ⟨hrank, hnActive, hlead, hon, hoci⟩ := C.takeDecided_gen
  obtain ⟨hqueue, hconv, hshare, hsum, hcount, htally⟩ := C.takeDecided_meas
  have hgen : C.gen
      = { s.gen with
          leadTaken := false
          onTaken := false
          ramp :=
            if s.ctl.state = .active then min s.dutyMax (s.gen.ramp + s.port.config.ramp.toNat)
            else s.gen.ramp } := by rw [← hC, State.counted_eq]; rfl
  have hmeas : C.meas = s.meas := by rw [← hC, State.counted_eq]; rfl
  have hroster : C.roster = s.roster := by rw [← hC, State.counted_eq]; rfl
  have hlen : C.frameLen = s.frameLen := by rw [← hC]; simp [State.counted, State.frameLen]
  have hcopies : C.takeDecided.copiesSchedule = (s.ctl.stateAfter == .active || s.gen.nActive.isSome) := by
    rw [State.copiesSchedule, hstate, hnActive, hgen]
  simp only [hgen] at hrank hnActive hlead hon hoci
  rw [hmeas] at hqueue hconv hshare hsum hcount htally
  refine ⟨?_, ?_, ?_, ?_, ?_, ?_, hstate, hnone, ?_, ?_, ?_, ?_, ?_, ?_, ?_, ?_, ?_, ?_, hlead, hon, hoci, ?_, ?_, ?_,
    ?_, ?_, ?_, ?_, hqueue, hconv, hshare, hsum, hcount, htally⟩
  · rw [← hC, State.counted_eq]; rfl
  · rw [← hC, State.counted_eq]; simp [ExchangeUnit.newFrame]
  · rw [← hC, State.counted_eq]; rfl
  · exact hroster
  · rw [← hC, State.counted_eq]; rfl
  · rw [← hC, State.counted_eq]; rfl
  · simp only [hstate, hannounce, hctl]
  · rw [hcauses, hctl]
  · rw [hrequest, hctl]
  · rw [hcause, hctl]
  · rw [hannounce, hctl]
  · intro h
    have hc : (s.ctl.stateAfter == .active || s.gen.nActive.isSome) = true := by
      simpa [Option.isSome_iff_ne_none] using h
    simp [hcopies, hc, hroster]
  · intro ha hn
    have hc : (s.ctl.stateAfter == .active || s.gen.nActive.isSome) = false := by simp [ha, hn]
    rw [hcopies, hc]
    exact ⟨hrank, hnActive.trans hn⟩
  · intro r ha hr hn
    rw [State.newOnPoint_of_lt (hafter.trans ha) (by rw [hroster]; exact hr) (by rw [hroster]; exact hn), hlen, hroster]
  · intro h
    exact State.newOnPoint_eq_none (by rw [hafter, hroster]; exact h)
  · intro ha
    obtain ⟨hwindow, hhg, hlg, htimer⟩ := State.takeDecided_gates_of_active (hafter.trans ha)
    simp only [hgen] at hwindow hhg hlg htimer
    simp [hwindow, hhg, hlg, htimer, hstate, ha]
  · intro hd
    have hT : C.takeDecided = C := State.takeDecided_of_none (by rw [hctl]; exact hd)
    simp only [hT, hctl, hgen, hmeas, Controller.stateAfter_of_none hd]
    refine ⟨trivial, trivial, trivial, trivial, trivial, trivial, trivial, trivial, trivial, fun hna => ?_⟩
    simp [hna]
  · intro hd
    obtain ⟨d, hd⟩ := Option.ne_none_iff_exists'.mp hd
    rw [State.takeDecided_of_some (hdec hd), State.enterDecision_ctl]
    exact ⟨rfl, rfl, rfl, rfl⟩
  · intro hd
    rw [State.takeDecided_of_some (hdec hd), State.enterDecision_ctl, State.enterDecision_gen, State.enterDecision_meas]
    simp [Decision.genAfter, Decision.measAfter, Decision.biasAfter, Decision.entered, hgen, hmeas, hctl]
  · intro hd
    rw [State.takeDecided_of_some (hdec hd), State.enterDecision_ctl, State.enterDecision_gen, State.enterDecision_meas]
    simp [Decision.genAfter, Decision.measAfter, Decision.biasAfter, Decision.entered, hgen, hmeas, hctl,
      PhaseGenerator.rest, PhaseGenerator.unschedule, PhaseGenerator.switchLgOff, MeasurementUnit.leaveActive]
  all_goals
    intro hd
    rw [State.takeDecided_of_some (hdec hd), State.enterDecision_ctl, State.enterDecision_gen]
    simp [Decision.genAfter, Decision.biasAfter, Decision.entered, PhaseGenerator.stop_gates]
end

section
/-! ## The edges of FRM and the classes of a frame -/

namespace Sys2Proof.Machine

theorem State.started_of_listen {s : State} (hl : s.ctl.state = .listen) : s.started = true := by
  simp [State.started, hl]

theorem exec_frmFirstQualifiedLevel (high : Bool) (s : State) :
    exec (.frmFirstQualifiedLevel high) s
      = .next
        (if s.firstLevelCan then
          (if s.ctl.state = .listen then (s.qualifyFrm high).setFrame ((s.qualifyFrm high).frame.firstLevel high)
           else s.qualifyFrm high)
         else s) := rfl

theorem exec_frameFallingEdge_of_follows {s : State} (hs : s.started = true) (hv : s.frame.filter.level = some true)
    (hf : s.follows = true) : exec .frameFallingEdge s = .next s.followFall := by
  have hc : s.fallCan = true := by simp [State.fallCan, hs, hv]
  rw [exec_frameFallingEdge, if_pos hc, if_pos hf]

theorem State.followFall_of_early {s : State} (h : s.frame.classed ≠ .opened ∨ s.frame.counter < 32) :
    s.followFall = s.fall :=
  if_neg (by rintro ⟨hc, hn⟩; rcases h with h | h; exact h hc; omega)

theorem State.followFall_of_late {s : State} (hc : s.frame.classed = .opened) (hn : 32 ≤ s.frame.counter) :
    s.followFall = s.classifyMark.fall :=
  if_pos ⟨hc, hn⟩

/-- The high interval is latched where a rise opened one (R11). -/
theorem State.latchHigh_eq (s : State) :
    s.latchHigh
      = s.setFrame
        { s.frame with
          lastHigh :=
            if s.frame.classed = .opened ∨ s.frame.classed = .mark then s.frame.counter else s.frame.lastHigh } := by
  unfold State.latchHigh; split <;> rfl

/-- The state just after the level has fallen: the latch, and the new qualified level (R1, R11). -/
def State.fallen (s : State) : State := s.latchHigh.qualifyFrm false

theorem State.fallen_eq (s : State) :
    s.fallen
      = s.setFrame
        { s.frame with
          filter := ⟨2, false, some false⟩
          lastHigh :=
            if s.frame.classed = .opened ∨ s.frame.classed = .mark then s.frame.counter else s.frame.lastHigh } := by
  rw [State.fallen, State.latchHigh_eq]; rfl

/-- A fall of a frame not yet classified classifies it as normal (R12). -/
def State.judgedFall (s : State) : State :=
  if s.fallen.frame.classed = .opened then s.fallen.classifyNormal else s.fallen

theorem State.fall_eq (s : State) :
    s.fall
      = if s.ctl.state = .listen then s.judgedFall.setFrame s.judgedFall.frame.listenFall else s.judgedFall := rfl

/-- In LISTEN the fall runs the timers too (R20, R21, R22). -/
theorem State.fall_of_listen {s : State} (hl : s.ctl.state = .listen) :
    s.fall = s.judgedFall.setFrame s.judgedFall.frame.listenFall := by rw [State.fall_eq, if_pos hl]

theorem State.fall_of_aligned {s : State} (hl : s.ctl.state ≠ .listen) : s.fall = s.judgedFall := by
  rw [State.fall_eq, if_neg hl]

theorem State.judgedFall_of_opened {s : State} (hc : s.frame.classed = .opened) :
    s.judgedFall = s.fallen.classifyNormal :=
  if_pos (by rw [State.fallen_eq]; exact hc)

theorem State.judgedFall_of_classed {s : State} (hc : s.frame.classed ≠ .opened) : s.judgedFall = s.fallen :=
  if_neg (by rw [State.fallen_eq]; exact hc)

/-! The classes (R12, R27 to R29). -/

theorem State.classifyNormal_of_fit {s : State}
    (h : s.frame.takingPart = false ∨ s.frame.index ≠ some 0) :
    s.classifyNormal = s.setFrame { s.frame with classed := .normal } := by
  rcases h with h | h <;> simp [State.classifyNormal, h]

theorem State.classifyNormal_of_misfit {s : State} (ht : s.frame.takingPart = true) (hk : s.frame.checked = true)
    (hi : s.frame.index = some 0) : s.classifyNormal = (s.setFrame { s.frame with classed := .normal }).markError := by
  simp [State.classifyNormal, ht, hk, hi]

/-- The frame classified as a mark. -/
def State.marked (s : State) : State := s.setFrame { s.frame with classed := .mark }

/-- What a mark brings: the alignment of an armed listener, an error in a checked frame 1 to 29 (R12, R23, R27). -/
theorem State.classifyMark_eq (s : State) :
    s.classifyMark
      = if s.ctl.state = .listen then (if s.frame.armed then s.marked.align else s.marked)
        else if s.frame.takingPart && s.frame.checked && s.frame.index != some 0 then s.marked.markError
        else s.marked := rfl

theorem State.classifyMark_of_fit {s : State} (hl : s.ctl.state ≠ .listen) (hi : s.frame.index = some 0) :
    s.classifyMark = s.marked := by
  simp [State.classifyMark_eq, hl, hi]

theorem State.classifyMark_of_misfit {s : State} (hl : s.ctl.state ≠ .listen) (ht : s.frame.takingPart = true)
    (hk : s.frame.checked = true) (hi : s.frame.index ≠ some 0) :
    s.classifyMark = s.marked.markError := by
  simp [State.classifyMark_eq, hl, ht, hk, hi]

/-- A mark error is noted: the flag, the damage and this word's record (R27, R28). -/
def State.noteMarkError (s : State) : State :=
  ((s.raise .markError).setExch { s.exch with damaged := true }).setFrame { s.frame with markThis := true }

theorem State.markError_eq (s : State) :
    s.markError
      = if s.frame.markLast && s.ctl.state != .fault then s.noteMarkError.rejoin false else s.noteMarkError := rfl

theorem State.markError_of_first {s : State} (h : s.frame.markLast = false ∨ s.ctl.state = .fault) :
    s.markError = s.noteMarkError := by
  rw [State.markError_eq]
  rcases h with h | h <;> simp [h]

theorem State.markError_of_second {s : State} (hm : s.frame.markLast = true) (hf : s.ctl.state ≠ .fault) :
    s.markError = s.noteMarkError.rejoin false := by
  simp [State.markError_eq, hm, hf]

/-! A mark classification made late, at a fall (log 11). -/

/-- The frame counter set to a value. -/
def State.setCounter (s : State) (n : Nat) : State := s.setFrame { s.frame with counter := n }

theorem State.setCounter_setCounter (s : State) (m n : Nat) : (s.setCounter m).setCounter n = s.setCounter n := rfl

theorem State.setCounter_self (s : State) : s.setCounter s.frame.counter = s := rfl

theorem State.markError_setCounter (s : State) (n : Nat) : (s.setCounter n).markError = s.markError.setCounter n := by
  have hc : ((s.setCounter n).frame.markLast && (s.setCounter n).ctl.state != .fault)
      = (s.frame.markLast && s.ctl.state != .fault) := rfl
  rw [State.markError_eq, State.markError_eq, hc]
  split <;> rfl

theorem State.startCheck_setCounter (s : State) (n : Nat) :
    (s.setCounter n).startCheck = s.startCheck.setCounter n := by
  have hc : (s.setCounter n).ctl = s.ctl := rfl
  rw [State.startCheck_eq, State.startCheck_eq, hc]
  split <;> rfl

theorem State.align_setCounter (s : State) (n : Nat) : (s.setCounter n).align = s.align.setCounter n :=
  State.startCheck_setCounter
    ((s.setFrame (s.frame.joinBarrier 0)).setExch { s.exch.cleared with wordOpen := true, driven := false }) n

/-- The class of a mark does not read the counter. -/
theorem State.classifyMark_setCounter (s : State) (n : Nat) :
    (s.setCounter n).classifyMark = s.classifyMark.setCounter n := by
  rw [State.classifyMark_eq, State.classifyMark_eq]
  change (if s.ctl.state = .listen then
      (if s.frame.armed then (s.marked.setCounter n).align else s.marked.setCounter n)
    else if s.frame.takingPart && s.frame.checked && s.frame.index != some 0 then (s.marked.setCounter n).markError
    else s.marked.setCounter n) = _
  rw [State.align_setCounter, State.markError_setCounter]
  split
  · split <;> rfl
  · split <;> rfl

theorem State.align_frame (s : State) :
    s.align.frame.filter = s.frame.filter ∧ s.align.frame.classed = s.frame.classed
      ∧ s.align.frame.takingPart = true := by
  simp [State.align, State.startCheck_frame, FrameUnit.leaveListen, FrameUnit.joinBarrier]

theorem State.align_started (s : State) : s.align.started = true := by
  simp only [State.started, State.align, State.startCheck_ctl]
  split <;> rfl

/-- After a mark error the station still follows the line, aligned or in LISTEN. -/
theorem State.markError_follows {s : State} (hs : s.started = true) (ht : s.frame.takingPart = true) :
    s.markError.frame.filter = s.frame.filter ∧ s.markError.frame.classed = s.frame.classed
      ∧ s.markError.started = true ∧ s.markError.follows = true := by
  rw [State.markError_eq]
  split
  · exact ⟨rfl, rfl, rfl, rfl⟩
  · exact ⟨rfl, rfl, hs, by simp [State.follows, State.noteMarkError, ht]⟩

/-- Whatever a mark classification brings, the frame is a mark on the same line, which the station still follows. -/
theorem State.classifyMark_follows {s : State} (hs : s.started = true) (hf : s.follows = true) :
    s.classifyMark.frame.filter = s.frame.filter ∧ s.classifyMark.frame.classed = .mark
      ∧ s.classifyMark.started = true ∧ s.classifyMark.follows = true := by
  rw [State.classifyMark_eq]
  split
  · split
    · obtain ⟨hv, hc, ht⟩ := s.marked.align_frame
      exact ⟨hv, hc, State.align_started _, by simp [State.follows, ht]⟩
    · exact ⟨rfl, rfl, hs, hf⟩
  · split
    next ht =>
      simp only [Bool.and_eq_true] at ht
      obtain ⟨⟨ht, -⟩, -⟩ := ht
      exact State.markError_follows (s := s.marked) hs ht
    next => exact ⟨rfl, rfl, hs, hf⟩

/-- At count 32 or above the mark classification of count 32 comes first, and then the fall of a classified frame. -/
theorem exec_frameFallingEdge_late {s : State} (hs : s.started = true) (hv : s.frame.filter.level = some true)
    (hf : s.follows = true) (hc : s.frame.classed = .opened) (hn : 32 ≤ s.frame.counter) :
    ∃ u, exec .markClassified { s with frame := { s.frame with counter := 32 } } = .next u
      ∧ u.frame.classed = .mark
      ∧ exec .frameFallingEdge s
        = exec .frameFallingEdge { u with frame := { u.frame with counter := s.frame.counter } } := by
  have hdue : (s.setCounter 32).markDue = true := by
    have hf' : (s.setCounter 32).follows = true := hf
    change ((s.setCounter 32).follows && s.frame.classed == .opened && (32 : Nat) == 32
      && s.frame.filter.level == some true) = true
    rw [hf', hc, hv]; rfl
  refine ⟨_, exec_markClassified_of_due hdue, ?_, ?_⟩
  · obtain ⟨-, hmark, -⟩ := State.classifyMark_follows (s := s.setCounter 32) hs hf
    exact hmark
  · obtain ⟨hv', hc', hs', hf'⟩ := State.classifyMark_follows hs hf
    have hback : (s.setCounter 32).classifyMark.setCounter s.frame.counter = s.classifyMark := by
      rw [State.classifyMark_setCounter, State.setCounter_setCounter, ← State.classifyMark_setCounter,
        State.setCounter_self]
    change exec .frameFallingEdge s = exec .frameFallingEdge ((s.setCounter 32).classifyMark.setCounter s.frame.counter)
    rw [hback, exec_frameFallingEdge_of_follows hs hv hf, State.followFall_of_late hc hn,
      exec_frameFallingEdge_of_follows hs' (by rw [hv', hv]) hf', State.followFall_of_early (.inl (by simp [hc']))]

end Sys2Proof.Machine

open Sys2Proof Sys2Proof.Machine

/-- Settles O12, by the class the frame has at the edge. -/
theorem listenEdgesRunTheTimers : Obligations.ListenEdgesRunTheTimers := by
  refine ⟨fun s hl ht => ⟨fun hv => ?_, fun hv => ?_⟩, fun s hf ht => ⟨fun hv => ?_, fun hv => ?_⟩,
    fun s hl => ⟨fun hr hn => ?_, fun hr => ?_⟩, fun high s hl hv => ?_⟩
  · have hc : s.riseCan = true := by simp [State.riseCan, State.started_of_listen hl, hv]
    rw [exec_frameStart, if_pos hc, if_pos hl]
    rfl
  · have hs := State.started_of_listen hl
    have hf : s.follows = true := by simp [State.follows, hl]
    have hexec := exec_frameFallingEdge_of_follows hs hv hf
    refine ⟨fun hc hn => ?_, fun hc hn ha => ?_, fun hc hn ha => ?_, fun hc => ?_, fun hc => ?_⟩
    · rw [hexec, State.followFall_of_early (.inr hn), State.fall_of_listen (by exact hl), State.judgedFall_of_opened hc,
        State.fallen_eq, State.classifyNormal_of_fit (by exact .inl ht), if_pos (.inl hc)]
      rfl
    · rw [hexec, State.followFall_of_late hc hn, State.classifyMark_of_unarmed hl ha, State.fall_of_listen (by exact hl),
        State.judgedFall_of_classed (by simp), State.fallen_eq, if_pos (.inr rfl)]
      rfl
    · obtain ⟨u, hu, -, heq⟩ := exec_frameFallingEdge_late hs hv hf hc hn
      exact ⟨u, hu, heq⟩
    · rw [hexec, State.followFall_of_early (.inl (by simp [hc])), State.fall_of_listen (by exact hl),
        State.judgedFall_of_classed (by simp [hc]), State.fallen_eq, if_pos (.inr hc)]
      rfl
    · rw [hexec, State.followFall_of_early (.inl (by simp [hc])), State.fall_of_listen (by exact hl),
        State.judgedFall_of_classed (by simp [hc]), State.fallen_eq, if_neg (by simp [hc])]
      rfl
  · have hc : s.riseCan = true := by simp [State.riseCan, State.started, hf, hv]
    rw [exec_frameStart, if_pos hc, if_neg (by simp [hf]), if_neg (by simp [ht])]
    rfl
  · have hc : s.fallCan = true := by simp [State.fallCan, State.started, hf, hv]
    have hnf : ¬s.follows = true := by simp [State.follows, hf, ht]
    rw [exec_frameFallingEdge, if_pos hc, if_neg hnf]
    rfl
  · exact whenDue_of_true (by simp [State.listenStuckDue, hl, Timer.reached_iff, hr, hn]) _ _
  · exact whenDue_of_false (by simp [State.listenStuckDue, Timer.reached, hr]) _ _
  · have hc : s.firstLevelCan = true := by simp [State.firstLevelCan, State.started_of_listen hl, hv]
    rw [exec_frmFirstQualifiedLevel, if_pos hc, if_pos hl]
    rfl
end

section
namespace Sys2Proof.Machine

theorem State.markDue_of_takingPart {s : State} (ht : s.frame.takingPart = true) (hc : s.frame.classed = .opened)
    (hn : s.frame.counter = 32) (hv : s.frame.filter.level = some true) : s.markDue = true := by
  simp [State.markDue, State.follows, ht, hc, hn, hv]

/-- A rejoin with the line high starts the quiet timer, with the line low the stuck timer (R19, R30). -/
theorem FrameUnit.rejoin_of_level {f : FrameUnit} {v : Bool} (hv : f.filter.level = some v) :
    f.rejoin false
      = { f with
          takingPart := false, pulling := false, index := none, ownEnd := false, waitRun := 0
          checked := false, markThis := false, markLast := false, armed := false
          fellInListen := false, declared := false
          quietTimer := if v then ⟨true, 0⟩ else ⟨false, 0⟩
          stuckTimer := if v then ⟨false, 0⟩ else ⟨true, 0⟩ } := by
  cases v <;> simp [FrameUnit.rejoin, FrameUnit.leaveBarrier, hv, Timer.started, Timer.stopped]

/-- A rejoin block by block (R30 to R33). -/
theorem State.rejoin_eq (s : State) (b : Bool) :
    s.rejoin b
      = { s with
          frame := s.frame.rejoin b
          exch := s.exch.cut
          gen := s.gen.rejoin
          roster := RosterUnit.emptied
          ctl := s.ctl.rejoin
          meas := s.meas.rejoin } := rfl

end Sys2Proof.Machine

open Sys2Proof Sys2Proof.Machine

/-- Settles O13: a frame that fits its place, one that does not, and the fall of a classified frame. -/
theorem fallsAndMarksClassifyTheFrame : Obligations.FallsAndMarksClassifyTheFrame := by
  have follows : ∀ {s : State}, s.frame.takingPart = true → s.follows = true := fun ht => by simp [State.follows, ht]
  refine ⟨fun s i hs ht hl hv hi hc => ⟨fun hne hn => ?_, fun h0 hn => ?_⟩,
    fun s i hs ht hl hv hi hc hk => ⟨fun hm => ⟨fun h0 hn => ?_, fun hne hn => ?_⟩, fun hm hf => ?_⟩,
    fun s hs ht hl hv => ⟨fun hc => ?_, fun hc hn => exec_frameFallingEdge_late hs hv (follows ht) hc hn⟩⟩
  · rw [exec_frameFallingEdge_of_follows hs hv (follows ht), State.followFall_of_early (.inr hn),
      State.fall_of_aligned hl, State.judgedFall_of_opened hc, State.fallen_eq,
      State.classifyNormal_of_fit (by exact .inr (by simpa [hi] using hne)), if_pos (.inl hc)]
    rfl
  · rw [exec_markClassified_of_due (State.markDue_of_takingPart ht hc hn hv),
      State.classifyMark_of_fit hl (by rw [hi, h0])]
    rfl
  · rw [exec_frameFallingEdge_of_follows hs hv (follows ht), State.followFall_of_early (.inr hn),
      State.fall_of_aligned hl, State.judgedFall_of_opened hc, State.fallen_eq,
      State.classifyNormal_of_misfit (by exact ht) (by exact hk) (by exact hi.trans (by rw [h0])),
      State.markError_of_first (by exact hm), if_pos (.inl hc)]
    rfl
  · rw [exec_markClassified_of_due (State.markDue_of_takingPart ht hc hn hv),
      State.classifyMark_of_misfit hl ht hk (by simpa [hi] using hne), State.markError_of_first (by exact hm)]
    rfl
  · dsimp only
    rw [← PhaseGenerator.rejoin_eq]
    refine ⟨fun h0 hn => ?_, fun hne hn => ?_⟩
    · rw [exec_frameFallingEdge_of_follows hs hv (follows ht), State.followFall_of_early (.inr hn),
        State.fall_of_aligned hl, State.judgedFall_of_opened hc, State.fallen_eq,
        State.classifyNormal_of_misfit (by exact ht) (by exact hk) (by exact hi.trans (by rw [h0])),
        State.markError_of_second (by exact hm) (by exact hf), State.rejoin_eq,
        FrameUnit.rejoin_of_level (v := false) rfl, if_pos (.inl hc)]
      rfl
    · rw [exec_markClassified_of_due (State.markDue_of_takingPart ht hc hn hv),
        State.classifyMark_of_misfit hl ht hk (by simpa [hi] using hne),
        State.markError_of_second (by exact hm) (by exact hf), State.rejoin_eq,
        FrameUnit.rejoin_of_level (by exact hv)]
      rfl
  · rw [exec_frameFallingEdge_of_follows hs hv (follows ht), State.followFall_of_early (.inl (by simp [hc])),
      State.fall_of_aligned hl, State.judgedFall_of_classed (by simp [hc]), State.fallen_eq, if_pos (.inr hc)]
    rfl
end

section
/-! ## The frame start that cuts a frame short -/

namespace Sys2Proof.Machine

/-! The word close reads nothing of the frame unit but the mark-error memory, and no sample. -/

theorem ite_setFrame {c : Prop} [Decidable c] {a b a' b' : State} {f : FrameUnit} (ha : a' = a.setFrame f)
    (hb : b' = b.setFrame f) : (if c then a' else b') = (if c then a else b).setFrame f := by
  split
  · exact ha
  · exact hb

theorem State.raiseIf_setFrame (s : State) (f : FrameUnit) (b : Bool) (g : Flag) :
    (s.setFrame f).raiseIf b g = (s.raiseIf b g).setFrame f :=
  ite_setFrame rfl rfl

theorem State.closeRoster_setFrame (s : State) (f : FrameUnit) (r : WordRecord) :
    (s.setFrame f).closeRoster r = (s.closeRoster r).setFrame f := by
  unfold State.closeRoster
  split
  · exact State.raiseIf_setFrame (s.setRoster _) f _ _
  · rfl

/-- Outside ACTIVE the entry to FAULT owes nothing, so it does not read the frame counter (R92; log 20). -/
theorem State.stopOwing_of_not_active {s : State} (hs : s.ctl.state ≠ .active) : s.stopOwing = s.stopSwitching := by
  have hg : s.stopOwing = s.stopSwitching.setGen s.stopOwing.gen := rfl
  rw [hg, State.stopOwing_gen_of_not_active s hs]
  rfl

theorem State.declareFault_of_check {s : State} (hs : s.ctl.state = .check) (c : FaultCause) :
    s.declareFault c = s.enterFault c (if c = .duplicate then 0 else 2) := by
  simp [State.declareFault, hs]

theorem State.enterFault_setFrame {s : State} (hs : s.ctl.state ≠ .active) (f : FrameUnit) (c : FaultCause) (n : Nat) :
    (s.setFrame f).enterFault c n = (s.enterFault c n).setFrame f := by
  unfold State.enterFault
  rw [State.stopOwing_of_not_active hs, State.stopOwing_of_not_active (s := s.setFrame f) hs]
  rfl

theorem State.closeCheck_setFrame {s : State} (hs : s.ctl.state = .check) (f : FrameUnit) (b : Bool) :
    (s.setFrame f).closeCheck b = (s.closeCheck b).setFrame f := by
  have hd : (s.setFrame f).declareFault .duplicate = (s.declareFault .duplicate).setFrame f := by
    rw [State.declareFault_of_check hs, State.declareFault_of_check (s := s.setFrame f) hs]
    exact State.enterFault_setFrame (by simp [hs]) f _ _
  exact ite_setFrame rfl (ite_setFrame hd rfl)

theorem State.closeState_setFrame (s : State) (f : FrameUnit) (b : Bool) :
    (s.setFrame f).closeState b = (s.closeState b).setFrame f := by
  unfold State.closeState
  simp only [State.setFrame_ctl]
  split
  next hs => exact State.closeCheck_setFrame hs f b
  · rfl
  · exact ite_setFrame rfl rfl
  · rfl
  · rfl
  · rfl
  · exact ite_setFrame rfl rfl
  all_goals rfl

theorem State.closeTrim_setFrame (s : State) (f : FrameUnit) (r : WordRecord) :
    (s.setFrame f).closeTrim r = (s.closeTrim r).setFrame f :=
  ite_setFrame (State.raiseIf_setFrame (s.setMeas _) f _ _) rfl

theorem State.stepTally_setFrame (s : State) (f : FrameUnit) : (s.setFrame f).stepTally = s.stepTally.setFrame f :=
  ite_setFrame (State.raiseIf_setFrame (s.setMeas _) f _ _) rfl

/-- The mark-error memory moves on at a close (R28). -/
def FrameUnit.closed (f : FrameUnit) : FrameUnit := { f with markLast := f.markThis, markThis := false }

theorem State.closeWord_setFrame (s : State) (f : FrameUnit) :
    (s.setFrame f).closeWord = s.closeWord.setFrame f.closed := by
  have hx : (s.setFrame f).closeExchange = s.closeExchange.setFrame f.closed := rfl
  have hr : ∀ u : State, (u.setFrame f.closed).closeRequest = u.closeRequest.setFrame f.closed := fun _ => rfl
  have hs : ∀ (u : State) r, (u.setFrame f.closed).closeShare r = (u.closeShare r).setFrame f.closed := fun _ _ => rfl
  have hh : ∀ (u : State) r, (u.setFrame f.closed).closeHistory r = (u.closeHistory r).setFrame f.closed :=
    fun _ _ => rfl
  simp only [State.closeWord, State.setFrame_exch, hx, hr, hs, hh, State.raiseIf_setFrame, State.closeRoster_setFrame,
    State.closeState_setFrame, State.closeTrim_setFrame, State.stepTally_setFrame]

/-- The samples of the frame in progress. -/
def State.setSamples (s : State) (l : List Bool) : State := s.setExch { s.exch with samples := l }

theorem State.closeWord_setSamples (s : State) (l : List Bool) : (s.setSamples l).closeWord = s.closeWord := rfl

/-! The unsettled bit of a cut frame reads neither the frame unit nor the samples (R40). -/

theorem State.readHalt_setFrame (s : State) (f : FrameUnit) : (s.setFrame f).readHalt = s.readHalt.setFrame f := by
  simp only [State.readHalt, State.setFrame_ctl]
  split <;> rfl

theorem State.readHalt_setExch (s : State) (e : ExchangeUnit) : (s.setExch e).readHalt = s.readHalt.setExch e := by
  simp only [State.readHalt, State.setExch_ctl]
  split <;> rfl

/-- A halt read leaves LISTEN and SETUP alone and enters neither (R163, R166). -/
theorem State.readHalt_state (s : State) :
    s.readHalt.ctl.state = s.ctl.state ∨ s.readHalt.ctl.state = .hold := by
  unfold State.readHalt
  dsimp only
  split <;> simp [State.enterHold]

/-- The word in progress after the bit of frame `i` is read as unsettled: damaged, with no contender left in that
frame's field (R39, R44), and its close due after frame 29 (R47). -/
def ExchangeUnit.unsettled (e : ExchangeUnit) (i : Nat) : ExchangeUnit :=
  { e with
    damaged := true
    halt := if i = 0 then some .unsettled else e.halt
    presence := if i < 17 ∧ i % 2 = 1 then e.presence ++ [.unsettled] else e.presence
    phase :=
      if 17 ≤ i ∧ i < 20 then { e.phase with bits := e.phase.bits ++ [.unsettled], contending := false } else e.phase
    current :=
      if 20 ≤ i then { e.current with bits := e.current.bits ++ [.unsettled], contending := false } else e.current
    closeDue := e.closeDue || i == 29 }

theorem ExchangeUnit.unsettled_phase (e : ExchangeUnit) (i : Nat) :
    (e.unsettled i).phase.contending = (e.phase.contending && !(decide (17 ≤ i ∧ i < 20))) := by
  by_cases h : 17 ≤ i ∧ i < 20 <;> simp [ExchangeUnit.unsettled, h]

theorem ExchangeUnit.unsettled_current (e : ExchangeUnit) (i : Nat) :
    (e.unsettled i).current.contending = (e.current.contending && decide (i < 20)) := by
  by_cases h : i < 20
  · simp [ExchangeUnit.unsettled, h, Nat.not_le.mpr h]
  · simp [ExchangeUnit.unsettled, h, Nat.not_lt.mp h]

/-- An unsettled bit agrees with nothing sent, so a contender stops at it (R44). -/
theorem Field.takeBit_unsettled {w : Nat} (f : Field w) (sent holds : Bool) :
    f.takeBit .unsettled sent holds = { f with bits := f.bits ++ [.unsettled], contending := false } := by
  cases sent <;> simp [Field.takeBit, ReadBit.agrees, ReadBit.settled]

/-- Besides the word in progress, an unsettled bit is a halt read in frame 0 and no duplicate (R73, R162). -/
theorem State.bitTime_unsettled (s : State) (i : Nat) :
    s.bitTime i .unsettled = (if i = 0 then s.readHalt else s).setExch (s.exch.unsettled i) := by
  have hdup : ∀ u : State, u.seesDuplicate .unsettled = false := fun u => by simp [State.seesDuplicate]
  unfold State.bitTime State.enterBit ExchangeUnit.unsettled
  by_cases h0 : i = 0
  · subst h0
    simp only [State.readHalt_setExch, if_true, reduceCtorEq, if_false, Bool.or_true, beq_self_eq_true]
    simp [State.setExch]
  · by_cases h17 : i < 17
    · have hd : (s.exch.closeDue || i == 29) = s.exch.closeDue := by simp; omega
      by_cases hodd : i % 2 = 1 <;>
        simp [h0, h17, hodd, hdup, hd, State.setExch, Nat.not_le.mpr h17, show ¬20 ≤ i by omega]
    · by_cases h20 : i < 20
      · have hd : (s.exch.closeDue || i == 29) = s.exch.closeDue := by simp; omega
        simp [h0, h17, h20, hd, State.setExch, Field.takeBit_unsettled, Nat.not_lt.mp h17, Nat.not_le.mpr h20]
      · simp [h0, h17, h20, State.setExch, Field.takeBit_unsettled, Nat.not_lt.mp h20]

theorem State.unsettled_frame (s : State) (i : Nat) : (s.bitTime i .unsettled).frame = s.frame := by
  rw [State.bitTime_unsettled]
  split <;> simp

theorem State.unsettled_exch (s : State) (i : Nat) : (s.bitTime i .unsettled).exch = s.exch.unsettled i := by
  rw [State.bitTime_unsettled]; rfl

theorem State.unsettled_state (s : State) (i : Nat) :
    (s.bitTime i .unsettled).ctl.state = s.ctl.state ∨ (s.bitTime i .unsettled).ctl.state = .hold := by
  rw [State.bitTime_unsettled]
  split
  · exact s.readHalt_state
  · exact .inl rfl

theorem State.unsettled_started (s : State) (i : Nat) (hs : s.started = true) (hl : s.ctl.state ≠ .listen) :
    (s.bitTime i .unsettled).started = true ∧ (s.bitTime i .unsettled).ctl.state ≠ .listen := by
  rcases s.unsettled_state i with h | h
  · exact ⟨by simpa only [State.started, h] using hs, by rwa [h]⟩
  · simp [State.started, h]

theorem State.unsettled_setFrame (s : State) (f : FrameUnit) (i : Nat) :
    (s.setFrame f).bitTime i .unsettled = (s.bitTime i .unsettled).setFrame f := by
  rw [State.bitTime_unsettled, State.bitTime_unsettled, State.readHalt_setFrame]
  split <;> rfl

theorem State.unsettled_setCounter (s : State) (n i : Nat) :
    (s.setCounter n).bitTime i .unsettled = (s.bitTime i .unsettled).setCounter n := by
  rw [State.setCounter, State.unsettled_setFrame, State.setCounter, State.unsettled_frame]

theorem exec_bitTime_of_due {s : State} (h : s.bitDue = true) (x : Bool) :
    exec (.bitTime x) s = .next ((s.lastSample x).bitTime s.indexNat (judge (s.exch.samples ++ [x]))) :=
  whenDue_of_true h _ _

theorem State.unsettled_setSamples (s : State) (l : List Bool) (i : Nat) :
    (s.setSamples l).bitTime i .unsettled = (s.bitTime i .unsettled).setSamples l := by
  have hr : (s.setSamples l).readHalt = s.readHalt.setSamples l := by
    rw [State.setSamples, State.readHalt_setExch, State.setSamples, State.readHalt_exch]
  rw [State.bitTime_unsettled, State.bitTime_unsettled, hr]
  split <;> rfl

/-! What the frame start makes of the cut frame. -/

theorem State.startFrame_setSamples (s : State) (l : List Bool) (i : Fin 30) :
    (s.setSamples l).startFrame i = s.startFrame i := by
  have hc : (s.setSamples l).counted i = s.counted i := by
    rw [State.counted_eq, State.counted_eq]; rfl
  rw [State.startFrame_eq, State.startFrame_eq, hc]

/-- The new frame has no samples, whatever the old one had. -/
theorem State.riseTail_setSamples {s : State} {i : Fin 30} (hi : s.frame.index = some i) (l : List Bool) :
    (s.setSamples l).riseTail = s.riseTail := by
  have hw : (s.setSamples l).withdrawing = s.withdrawing := rfl
  rw [State.riseTail_of_index hi, State.riseTail_of_index (s := s.setSamples l) hi, State.startFrame_setSamples, hw]
  split <;> rfl

theorem State.takeDueClose_of_due {s : State} (hd : s.exch.closeDue = true) : s.takeDueClose = s.closeWord := if_pos hd

/-- The bit of a cut frame is judged unsettled at the frame start that ends it (R40). -/
theorem State.judgeCutFrame_of_cut {s : State} {i : Fin 30} (ht : s.frame.takingPart = true)
    (ho : s.exch.wordOpen = true) (hn : s.exch.samples.length < 4) (hi : s.frame.index = some i) :
    s.judgeCutFrame = s.bitTime i .unsettled := by
  have hidx : s.indexNat = i.val := by simp [State.indexNat, hi]
  rw [State.judgeCutFrame, hidx]
  exact if_pos (by simp [State.sampling, ht, ho, hn])

/-- A frame start acts as it does on the state with the cut bit judged, its samples complete. -/
theorem exec_frameStart_of_cut {s : State} {i : Fin 30} {l : List Bool} (hs : s.started = true)
    (hv : s.frame.filter.level = some false) (ht : s.frame.takingPart = true) (hl : s.ctl.state ≠ .listen)
    (hi : s.frame.index = some i) (ho : s.exch.wordOpen = true) (hn : s.exch.samples.length < 4) (h4 : 4 ≤ l.length) :
    exec .frameStart s = exec .frameStart ((s.bitTime i .unsettled).setSamples l) := by
  set V := s.bitTime i .unsettled with hV
  have hf : V.frame = s.frame := s.unsettled_frame i
  obtain ⟨hs', hl'⟩ := s.unsettled_started i hs hl
  have hcut : (s.qualifyFrm true).judgeCutFrame = V.qualifyFrm true := by
    rw [State.judgeCutFrame_of_cut (i := i) (by exact ht) (by exact ho) (by exact hn) (by exact hi), State.qualifyFrm,
      State.unsettled_setFrame, State.qualifyFrm, hf]
  have hwhole : ((V.setSamples l).qualifyFrm true).judgeCutFrame = (V.qualifyFrm true).setSamples l :=
    State.judgeCutFrame_of_whole (.inr h4)
  rw [exec_frameStart_of_takingPart hs hv ht hl,
    exec_frameStart_of_takingPart (s := V.setSamples l) hs' (by exact hf ▸ hv) (by exact hf ▸ ht) hl',
    State.alignedRise_eq, State.alignedRise_eq, hcut, hwhole]
  cases hd : V.exch.closeDue with
  | true =>
    rw [State.takeDueClose_of_due (by exact hd), State.takeDueClose_of_due (by exact hd), State.closeWord_setSamples]
  | false =>
    have h1 : (V.qualifyFrm true).takeDueClose = V.qualifyFrm true := if_neg (by simp [hd])
    have h2 : ((V.qualifyFrm true).setSamples l).takeDueClose = (V.qualifyFrm true).setSamples l :=
      if_neg (by simp [State.setSamples, hd])
    rw [h1, h2, State.riseTail_setSamples (i := i) (by exact (congrArg FrameUnit.index hf).trans hi)]

/-- A close leaves the state or enters FAULT (R71, R78). -/
theorem State.closeState_state (s : State) (b : Bool) :
    (s.closeState b).ctl.state = s.ctl.state ∨ (s.closeState b).ctl.state = .fault := by
  unfold State.closeState
  split
  next hs =>
    unfold State.closeCheck
    split
    · exact .inl rfl
    · split
      · rw [State.declareFault_of_check hs, State.enterFault_ctl]; exact .inr rfl
      · exact .inl rfl
  · exact .inl rfl
  · unfold State.closeShed; split <;> exact .inl rfl
  · exact .inl rfl
  · exact .inl rfl
  · exact .inl rfl
  · unfold State.closeAside; split <;> exact .inl rfl
  all_goals exact .inl rfl

theorem State.closeWord_state (s : State) :
    s.closeWord.ctl.state = s.ctl.state ∨ s.closeWord.ctl.state = .fault := by
  have h := State.closeState_state
    (((s.closeExchange.raiseIf s.exch.record.damaged .damagedWord).closeRoster s.exch.record).closeRequest)
    s.exch.record.damaged
  simpa [State.closeWord, State.closeRequest] using h

theorem State.qualifyFrm_closeWord (s : State) (v : Bool) :
    (s.qualifyFrm v).closeWord = s.closeWord.qualifyFrm v := by
  rw [State.qualifyFrm, State.closeWord_setFrame, State.qualifyFrm, State.closeWord_frame]
  rfl

theorem State.closeWord_setCounter (s : State) (n : Nat) : (s.setCounter n).closeWord = s.closeWord.setCounter n := by
  rw [State.setCounter, State.closeWord_setFrame, State.setCounter, State.closeWord_frame]
  rfl

/-- A frame start with the close due acts as it does on the closed word (R40, R47). -/
theorem exec_frameStart_of_closeDue {s : State} (hs : s.started = true) (hv : s.frame.filter.level = some false)
    (ht : s.frame.takingPart = true) (hl : s.ctl.state ≠ .listen) (hd : s.exch.closeDue = true)
    (h4 : 4 ≤ s.exch.samples.length) : exec .frameStart s = exec .frameStart s.closeWord := by
  have hstate : s.closeWord.ctl.state ≠ .listen ∧ s.closeWord.ctl.state ≠ .setup := by
    have hsetup : s.ctl.state ≠ .setup := by simpa [State.started] using hs
    rcases s.closeWord_state with h | h <;> simp [h, hl, hsetup]
  have hf := s.closeWord_frame
  have hx := s.closeWord_exch
  rw [exec_frameStart_of_takingPart hs hv ht hl,
    exec_frameStart_of_takingPart (s := s.closeWord) (by simpa [State.started] using hstate.2) (by rw [hf]; exact hv)
      (by rw [hf]; exact ht) hstate.1,
    State.alignedRise_of_whole (s := s.closeWord.qualifyFrm true) (.inl (by simp [hx, ExchangeUnit.cleared]))
      (by simp [hx, ExchangeUnit.cleared]),
    State.alignedRise_eq, State.judgeCutFrame_of_whole (by exact .inr h4), State.takeDueClose_of_due (by exact hd),
    State.qualifyFrm_closeWord]

end Sys2Proof.Machine

open Sys2Proof Sys2Proof.Machine

/-- Settles O21: BIT_TIME reads four samples that disagree as unsettled, and the cut frame is read so too. -/
theorem earlyFrameStartCutsTheFrameShort : Obligations.EarlyFrameStartCutsTheFrameShort := by
  refine ⟨fun s i hs hv ht hl hi hd => ⟨fun ho hn => ?_, fun hw hf hc => ?_⟩, fun s hs hv ht hl ho hd h4 => ?_⟩
  · set V := s.bitTime i .unsettled with hV
    have hx : V.exch = s.exch.unsettled i := s.unsettled_exch i
    have hf : V.frame = s.frame := s.unsettled_frame i
    set u := (V.setSamples [true, false, true, false]).setCounter (s.sampleAt + 6) with hu
    have hback : u.setCounter s.frame.counter = V.setSamples [true, false, true, false] := by
      rw [hu, State.setCounter_setCounter, ← hf]; rfl
    have hcut := exec_frameStart_of_cut hs hv ht hl hi ho hn (l := [true, false, true, false]) (by simp)
    refine ⟨u, ?_, ?_, ?_, ?_, fun hne => ?_, fun h29 => ?_⟩
    · rw [exec_bitTime_of_due (by simp [State.bitDue, State.sampling, ht, ho, State.sampleAt])]
      have hidx : s.indexNat = i.val := by simp [State.indexNat, hi]
      have hsplit : ((s.setCounter (s.sampleAt + 6)).setSamples [true, false, true, false]).bitTime i .unsettled = u := by
        rw [State.unsettled_setSamples, State.unsettled_setCounter]; rfl
      rw [← hsplit, ← hidx]
      rfl
    · exact congrArg ExchangeUnit.damaged hx
    · change V.exch.phase.contending = _
      rw [hx, ExchangeUnit.unsettled_phase]
    · change V.exch.current.contending = _
      rw [hx, ExchangeUnit.unsettled_current]
    · exact hcut.trans (by rw [← hback]; rfl)
    · have hdue : V.exch.closeDue = true := by rw [hx, h29]; simp [ExchangeUnit.unsettled]
      have hcan : u.closeCan = true := by
        change (V.frame.takingPart && V.exch.wordOpen && V.exch.closeDue) = true
        rw [hf, ht, hdue, hx, ExchangeUnit.unsettled, ho]; rfl
      have hclosed : u.closeWord.setCounter s.frame.counter = (V.setSamples [true, false, true, false]).closeWord := by
        rw [← State.closeWord_setCounter, hback]
      obtain ⟨hs', hl'⟩ := s.unsettled_started i hs hl
      have hclose := exec_frameStart_of_closeDue (s := V.setSamples [true, false, true, false]) hs' (by exact hf ▸ hv)
        (by exact hf ▸ ht) hl' hdue (by simp [State.setSamples])
      refine ⟨u.closeWord, by rw [exec_wordClose, if_pos hcan], ?_⟩
      exact (hcut.trans hclose).trans (by rw [← hclosed]; rfl)
  · rw [exec_frameStart_of_takingPart hs hv ht hl, State.alignedRise_of_whole (by exact hw) (by exact hd),
      State.riseTail_of_index (i := i) (by exact hi), if_pos (State.withdrawing_iff.mpr ⟨by exact hf, by exact hc⟩)]
    rfl
  · have hcan : s.closeCan = true := by simp [State.closeCan, ht, ho, hd]
    refine ⟨s.closeWord, by rw [exec_wordClose, if_pos hcan], ?_, ?_, exec_frameStart_of_closeDue hs hv ht hl hd h4⟩
    · simp [State.closeWord_exch, ExchangeUnit.cleared]
    · simp [State.closeWord_exch, ExchangeUnit.cleared]
end

section
/-! ## A current result, and the rejoin of CLEAR_FAULT -/

namespace Sys2Proof.Machine

theorem exec_conversionComplete_of_due {s : State} {c : Conversion} (hs : s.started = true)
    (hc : s.meas.conv = some c) (ht : c.timer = 40) (code : Reading) :
    exec (.conversionComplete code) s = .next (s.takeResult c code).startConversion := by
  have hdue : s.conversionDue = true := (State.conversionDue_iff hs).mpr ⟨c, hc, ht⟩
  refine (whenDue_of_true hdue s _).trans ?_
  rw [hc]

/-- A current result reaches the accumulator alone, and a discarded one not even that (R135, R143). -/
theorem State.takeCurrent_eq (s : State) (discard : Bool) (code : Reading) :
    s.takeCurrent discard code
      = s.setMeas
        { s.meas with
          accSum := if discard then s.meas.accSum else s.meas.accSum + code.toNat
          accCount := if discard then s.meas.accCount else s.meas.accCount + 1 } := by
  cases discard <;> rfl

/-- A later byte of the transaction in progress is shifted out and has its effect (R174). -/
theorem State.laterByte_of_txn {s : State} {t : Transaction} {cmd : PortCommand} (ho : s.portOpen = true)
    (ht : s.port.txn = some t) (hc : t.cmd = cmd) (effect : Transaction → State → State) :
    s.laterByte cmd effect = effect t (s.advanceByte t) := by
  simp [State.laterByte, ht, ho, hc]

theorem State.portOpen_iff {s : State} : s.portOpen = true ↔ s.straps ≠ none ∧ s.port.awaitRise = false := by
  simp [State.portOpen, Option.isSome_iff_ne_none]

/-- The result byte of an accepted transaction follows its command byte (R174, R175). -/
theorem State.advanceByte_of_accepted {s : State} {t : Transaction} (hr : t.result = .accepted) (hb : t.bytes = 1) :
    s.advanceByte t = s.setPort { s.port with sdo := some 0x80, txn := some { t with bytes := 2 } } := by
  simp [State.advanceByte, Transaction.shiftOut, hr, hb, ResultCode.byte]

theorem State.faultClearable_iff {s : State} :
    s.faultClearable = true ↔ s.ctl.state = .fault ∧ s.ctl.announce = 0
      ∧ (s.ctl.faultCause = some .duplicate ∨ s.ctl.faultCause = some .overcurrent) := by
  simp [State.faultClearable, and_assoc]

/-- The listening timers after a rejoin without STUCK: each runs from 0 on its own level of FRM, and with no qualified
level neither does (R19; log 23). -/
theorem FrameUnit.rejoin_eq (f : FrameUnit) :
    f.rejoin false
      = { f with
          takingPart := false, pulling := false, index := none, ownEnd := false, waitRun := 0
          checked := false, markThis := false, markLast := false, armed := false
          fellInListen := false, declared := false
          quietTimer := ⟨f.filter.level == some true, 0⟩
          stuckTimer := ⟨f.filter.level == some false, 0⟩ } := by
  obtain hv | hv | hv : f.filter.level = none ∨ f.filter.level = some true ∨ f.filter.level = some false := by
    rcases f.filter.level with _ | _ | _ <;> simp
  all_goals simp [FrameUnit.rejoin, FrameUnit.leaveBarrier, hv, Timer.started, Timer.stopped]

end Sys2Proof.Machine

open Sys2Proof Sys2Proof.Machine

/-- Settles O37: the sum, then the head of the queue on the converter left idle. -/
theorem currentResultJoinsTheAccumulator : Obligations.CurrentResultJoinsTheAccumulator := by
  intro s c code hs hc ht hch
  have hresult : s.takeResult c code = (s.setMeas { s.meas with conv := none }).takeCurrent c.discard code := by
    simp [State.takeResult, hch]
  rw [exec_conversionComplete_of_due hs hc ht, hresult, State.takeCurrent_eq, State.startConversion,
    MeasurementUnit.startNext_eq]
  rfl

/-- Settles O52: the command byte only answers, and the result byte of an accepted command makes the rejoin. -/
theorem clearFaultRejoins : Obligations.ClearFaultRejoins := by
  intro s hst hw
  have hopen : s.portOpen = true := State.portOpen_iff.mpr ⟨hst, hw⟩
  refine ⟨?_, fun t sdi ht hc hr hb => ?_⟩
  · have hbegun : exec (.clearFault .command) s
        = .next (s.beginTransaction .clearFault (acceptedIf s.faultClearable) []) :=
      congrArg Host.Outcome.next (if_pos hopen)
    simp only [hbegun, acceptedIf, State.faultClearable_iff]
    rfl
  · have heffect : exec (.clearFault (.later sdi)) s = .next ((s.advanceByte t).rejoin false) := by
      have hbyte : atByte 2 takeClearFault t (s.advanceByte t) = (s.advanceByte t).rejoin false := if_pos ⟨hr, by omega⟩
      exact congrArg Host.Outcome.next ((State.laterByte_of_txn hopen ht hc _).trans hbyte)
    dsimp only
    rw [heffect, State.advanceByte_of_accepted hr hb, State.rejoin_eq, ← PhaseGenerator.rejoin_eq, FrameUnit.rejoin_eq]
    rfl
end

section
/-! ## What a raised flag and a word close leave of the port, the flags and housekeeping -/

namespace Sys2Proof.Machine

/-- What the port holds besides the configuration, the flags and their marks: the history, the transaction in progress
and the two states of its pins. -/
def State.dealings (s : State) : List WordRecord × Option Transaction × Bool × Option Byte :=
  (s.port.history, s.port.txn, s.port.awaitRise, s.port.sdo)

theorem State.dealings_eq_iff {s t : State} :
    t.dealings = s.dealings ↔ t.port.history = s.port.history ∧ t.port.txn = s.port.txn
      ∧ t.port.awaitRise = s.port.awaitRise ∧ t.port.sdo = s.port.sdo := by
  simp [State.dealings]

theorem State.dealings_of_port {s t : State} (h : t.port = s.port) : t.dealings = s.dealings := by
  simp [State.dealings, h]

@[simp] theorem State.setFrame_dealings (s : State) (f : FrameUnit) : (s.setFrame f).dealings = s.dealings := rfl
@[simp] theorem State.setExch_dealings (s : State) (e : ExchangeUnit) : (s.setExch e).dealings = s.dealings := rfl
@[simp] theorem State.setRoster_dealings (s : State) (r : RosterUnit) : (s.setRoster r).dealings = s.dealings := rfl
@[simp] theorem State.setCtl_dealings (s : State) (c : Controller) : (s.setCtl c).dealings = s.dealings := rfl
@[simp] theorem State.setGen_dealings (s : State) (g : PhaseGenerator) : (s.setGen g).dealings = s.dealings := rfl
@[simp] theorem State.setMeas_dealings (s : State) (m : MeasurementUnit) : (s.setMeas m).dealings = s.dealings := rfl
@[simp] theorem State.setDmd_dealings (s : State) (d : DemandMonitor) : (s.setDmd d).dealings = s.dealings := rfl
@[simp] theorem State.setPending_dealings (s : State) (q : List Instr) : (s.setPending q).dealings = s.dealings := rfl
@[simp] theorem State.raise_dealings (s : State) (f : Flag) : (s.raise f).dealings = s.dealings := rfl

@[simp] theorem State.raiseIf_dealings (s : State) (b : Bool) (f : Flag) : (s.raiseIf b f).dealings = s.dealings := by
  cases b <;> rfl

@[simp] theorem State.enterFault_dealings (s : State) (c : FaultCause) (n : Nat) :
    (s.enterFault c n).dealings = s.dealings := by
  simp only [State.dealings, State.enterFault_port]; rfl

@[simp] theorem State.closeRoster_dealings (s : State) (r : WordRecord) : (s.closeRoster r).dealings = s.dealings := by
  unfold State.closeRoster; split <;> simp

@[simp] theorem State.closeTrim_dealings (s : State) (r : WordRecord) : (s.closeTrim r).dealings = s.dealings := by
  unfold State.closeTrim; split <;> simp

@[simp] theorem State.stepTally_dealings (s : State) : s.stepTally.dealings = s.dealings := by
  unfold State.stepTally; split <;> simp

/-- The state decision of a close declares DUPLICATE in CHECK, or it sets the decided state and the counters of the
close and leaves the roster unit or empties it (R58, R71, R87, R100, R101, R165). -/
theorem State.closeState_cases (s : State) (b : Bool) :
    (s.ctl.state = .check ∧ s.closeState b = s.enterFault .duplicate 0)
      ∨ ∃ r d run hold, (r = s.roster ∨ r = RosterUnit.emptied)
        ∧ s.closeState b = (s.setRoster r).setCtl { s.ctl with decided := d, shedRun := run, holdCount := hold } := by
  have hdecide : ∀ d, s.closeState b = s.setDecided d →
      ∃ r d run hold, (r = s.roster ∨ r = RosterUnit.emptied)
        ∧ s.closeState b = (s.setRoster r).setCtl { s.ctl with decided := d, shedRun := run, holdCount := hold } :=
    fun d h => ⟨s.roster, d, s.ctl.shedRun, s.ctl.holdCount, .inl rfl, h⟩
  cases hs : s.ctl.state with
  | check =>
    have h : s.closeState b = s.closeCheck b := by simp [State.closeState, hs]
    rw [h, State.closeCheck, State.declareFault_of_check hs]
    split
    · exact .inr ⟨s.roster, none, s.ctl.shedRun, s.ctl.holdCount, .inl rfl, rfl⟩
    · split
      · exact .inl ⟨rfl, rfl⟩
      · exact .inr ⟨s.roster, some .shed, 0, s.ctl.holdCount, .inl rfl, rfl⟩
  | shed =>
    have h : s.closeState b = s.closeShed := by simp [State.closeState, hs]
    rw [h, State.closeShed]
    split
    · exact .inr ⟨s.roster, some .active, s.ctl.shedRun, s.ctl.holdCount, .inl rfl, rfl⟩
    · exact .inr ⟨s.roster, _, s.ctl.nextShedRun, s.ctl.holdCount, .inl rfl, rfl⟩
  | hold =>
    have h : s.closeState b = s.closeHold := by simp [State.closeState, hs]
    exact .inr ⟨s.roster, _, s.ctl.shedRun, s.ctl.holdCount - 1, .inl rfl, h⟩
  | aside =>
    have h : s.closeState b = s.closeAside := by simp [State.closeState, hs]
    rw [h, State.closeAside]
    split
    · exact .inr ⟨RosterUnit.emptied, some .check, s.ctl.shedRun, s.ctl.holdCount, .inr rfl, rfl⟩
    · exact .inr ⟨s.roster, none, s.ctl.shedRun, s.ctl.holdCount, .inl rfl, rfl⟩
  | active | parked | warming | setup | listen | fault =>
    exact .inr (hdecide _ (by simp only [State.closeState, hs]; rfl))

@[simp] theorem State.closeState_dealings (s : State) (b : Bool) : (s.closeState b).dealings = s.dealings := by
  obtain ⟨-, h⟩ | ⟨r, d, run, hold, -, h⟩ := s.closeState_cases b <;> simp [h]

@[simp] theorem State.closeState_causes (s : State) (b : Bool) : (s.closeState b).ctl.causes = s.ctl.causes := by
  obtain ⟨-, h⟩ | ⟨r, d, run, hold, -, h⟩ := s.closeState_cases b <;> simp [h, State.enterFault_ctl, Controller.calm]

/-- The housekeeping side of the measurement unit: the converter, its queue and the tally. -/
def State.housekeeping (s : State) : Option Conversion × List Channel × Nat := (s.meas.conv, s.meas.queue, s.meas.tally)

theorem State.housekeeping_eq_iff {s t : State} :
    t.housekeeping = s.housekeeping ↔ t.meas.conv = s.meas.conv ∧ t.meas.queue = s.meas.queue
      ∧ t.meas.tally = s.meas.tally := by
  simp [State.housekeeping]

@[simp] theorem State.closeState_housekeeping (s : State) (b : Bool) : (s.closeState b).housekeeping = s.housekeeping := by
  obtain ⟨-, h⟩ | ⟨r, d, run, hold, -, h⟩ := s.closeState_cases b <;>
    simp [h, State.housekeeping, State.enterFault_meas, MeasurementUnit.leaveActive]

@[simp] theorem State.closeTrim_housekeeping (s : State) (r : WordRecord) :
    (s.closeTrim r).housekeeping = s.housekeeping := by
  unfold State.closeTrim
  split
  · simp [State.housekeeping]
  · rfl

/-! Flags that stand. -/

/-- A raise sets its own flag and leaves the others (R180). -/
@[simp] theorem State.raise_flagSet (s : State) (f g : Flag) :
    (s.raise f).flagSet g = (s.flagSet g || decide (f = g)) := by
  have hbit : f.bit.getLsbD g.number = decide (f = g) := by cases f <;> cases g <;> rfl
  rw [← hbit]
  exact BitVec.getLsbD_or

/-- Every flag set in `s` is set in `t`. -/
def State.FlagsStand (s t : State) : Prop := ∀ f, s.flagSet f = true → t.flagSet f = true

namespace State.FlagsStand

theorem trans {s t u : State} (h : s.FlagsStand t) (h' : t.FlagsStand u) : s.FlagsStand u :=
  fun f hf => h' f (h f hf)

theorem of_flags {s t : State} (h : t.port.flags = s.port.flags) : s.FlagsStand t :=
  fun f hf => by simpa only [State.flagSet, h] using hf

theorem raise (s : State) (f : Flag) : s.FlagsStand (s.raise f) := fun g hg => by simp [hg]

theorem raiseIf (s : State) (b : Bool) (f : Flag) : s.FlagsStand (s.raiseIf b f) := by
  cases b
  · exact of_flags rfl
  · exact raise s f

theorem setRoster (s : State) (r : RosterUnit) : s.FlagsStand (s.setRoster r) := of_flags rfl
theorem setMeas (s : State) (m : MeasurementUnit) : s.FlagsStand (s.setMeas m) := of_flags rfl

theorem enterFault (s : State) (c : FaultCause) (n : Nat) : s.FlagsStand (s.enterFault c n) :=
  (raise s c.flag).trans (of_flags (by rw [State.enterFault_port]; rfl))

theorem closeRoster (s : State) (r : WordRecord) : s.FlagsStand (s.closeRoster r) := by
  unfold State.closeRoster
  split
  · exact (setRoster s _).trans (raiseIf _ _ _)
  · exact setRoster s _

theorem closeState (s : State) (b : Bool) : s.FlagsStand (s.closeState b) := by
  obtain ⟨-, h⟩ | ⟨r, d, run, hold, -, h⟩ := s.closeState_cases b <;> rw [h]
  · exact enterFault s .duplicate 0
  · exact of_flags rfl

theorem closeTrim (s : State) (r : WordRecord) : s.FlagsStand (s.closeTrim r) := by
  unfold State.closeTrim
  split
  · exact (setMeas s _).trans (raiseIf _ _ _)
  · exact fun _ hf => hf

theorem stepTally (s : State) : s.FlagsStand s.stepTally := by
  unfold State.stepTally
  split
  · exact (setMeas s _).trans (raiseIf _ _ _)
  · exact setMeas s _

end State.FlagsStand

/-- A ninth record pushes out the oldest, and a READ_HISTORY in progress then has one returned record fewer to remove
(R182, R183). -/
theorem PortUnit.append_eq (p : PortUnit) (r : WordRecord) :
    p.append r
      = { p with
          history := (if 8 ≤ p.history.length then p.history.drop 1 else p.history) ++ [r]
          txn :=
            if 8 ≤ p.history.length then p.txn.map (fun t => { t with returned := t.returned - 1 }) else p.txn } := by
  unfold PortUnit.append
  split <;> rfl

end Sys2Proof.Machine
end

section
/-! ## The word close and its record -/

namespace Sys2Proof.Machine

/-- The close as far as housekeeping: the word cleared, the census, the request, the state decision, the trim and the
share value (R47, R68, R96, R143, R145). -/
def State.decidedClose (s : State) : State :=
  let r := s.exch.record
  let closed := (s.closeExchange.raiseIf r.damaged .damagedWord).closeRoster r
  ((closed.closeRequest.closeState r.damaged).closeTrim r).closeShare r

/-- Housekeeping comes last, and then the history (R137, R182). -/
theorem State.closeWord_eq (s : State) : s.closeWord = s.decidedClose.stepTally.closeHistory s.exch.record := rfl

namespace State

variable (s : State)

@[simp] theorem closeExchange_dealings : s.closeExchange.dealings = s.dealings := rfl
@[simp] theorem closeRequest_dealings : s.closeRequest.dealings = s.dealings := rfl
@[simp] theorem closeShare_dealings (r : WordRecord) : (s.closeShare r).dealings = s.dealings := rfl

theorem decidedClose_dealings : s.decidedClose.dealings = s.dealings := by simp [decidedClose]

@[simp] theorem closeExchange_housekeeping : s.closeExchange.housekeeping = s.housekeeping := rfl
@[simp] theorem raiseIf_housekeeping (b : Bool) (f : Flag) : (s.raiseIf b f).housekeeping = s.housekeeping := by
  simp [housekeeping]
@[simp] theorem closeRoster_housekeeping (r : WordRecord) : (s.closeRoster r).housekeeping = s.housekeeping := by
  simp [housekeeping]
@[simp] theorem closeRequest_housekeeping : s.closeRequest.housekeeping = s.housekeeping := rfl
@[simp] theorem closeShare_housekeeping (r : WordRecord) : (s.closeShare r).housekeeping = s.housekeeping := rfl

theorem decidedClose_housekeeping : s.decidedClose.housekeeping = s.housekeeping := by simp [decidedClose]

@[simp] theorem decidedClose_config : s.decidedClose.port.config = s.port.config := by simp [decidedClose]

theorem decidedClose_causes : s.decidedClose.ctl.causes = s.ctl.causes := by simp [decidedClose, closeRequest]

theorem decidedClose_gen (h : s.ctl.state ≠ .check) : s.decidedClose.gen = s.gen := by
  have hclosed := State.closeState_gen
    (((s.closeExchange.raiseIf s.exch.record.damaged .damagedWord).closeRoster s.exch.record).closeRequest)
    s.exch.record.damaged (by simpa [closeRequest] using h)
  simpa [decidedClose] using hclosed

/-- A damaged word sets its flag, which the rest of the close leaves standing (R50). -/
theorem decidedClose_damaged (h : s.exch.damaged = true) : s.decidedClose.flagSet .damagedWord = true := by
  have hraised : (s.closeExchange.raiseIf s.exch.record.damaged .damagedWord).flagSet .damagedWord = true := by
    have hr : s.exch.record.damaged = true := h
    simp [raiseIf, hr]
  have hrequest : ∀ u : State, u.FlagsStand u.closeRequest := fun _ => .of_flags rfl
  have hshare : ∀ (u : State) r, u.FlagsStand (u.closeShare r) := fun _ _ => .of_flags rfl
  exact (((((FlagsStand.closeRoster _ _).trans (hrequest _)).trans (.closeState _ _)).trans (.closeTrim _ _)).trans
    (hshare _ _)) _ hraised

theorem closeHistory_flags (r : WordRecord) : (s.closeHistory r).port.flags = s.port.flags := by
  simp [closeHistory, PortUnit.append_eq]

theorem closeHistory_txn (r : WordRecord) :
    (s.closeHistory r).port.txn
      = if 8 ≤ s.port.history.length then s.port.txn.map (fun t => { t with returned := t.returned - 1 })
        else s.port.txn := by
  simp [closeHistory, PortUnit.append_eq]

theorem closeHistory_pins (r : WordRecord) :
    (s.closeHistory r).port.awaitRise = s.port.awaitRise ∧ (s.closeHistory r).port.sdo = s.port.sdo := by
  simp [closeHistory, PortUnit.append_eq]

/-- A request that finds a channel queued sets HK_LATE (R139). -/
theorem stepTally_late (h : s.port.config.hkWords.toNat ≤ s.meas.tally + 1)
    (hq : Channel.tsns ∈ s.meas.queue ∨ Channel.vsns ∈ s.meas.queue) : s.stepTally.flagSet .hkLate = true := by
  rw [stepTally_of_le h, if_pos hq]
  exact (raise_flagSet s .hkLate .hkLate).trans (by simp)

end State

end Sys2Proof.Machine

open Sys2Proof Sys2Proof.Machine

/-- Settles O24: the close up to housekeeping keeps the port's dealings and the queue, housekeeping steps the tally, and
the history takes the record. -/
theorem wordCloseMakesTheRecord : Obligations.WordCloseMakesTheRecord := by
  intro s ht ho hd
  have hexec : exec .wordClose s = .next s.closeWord := by
    rw [exec_wordClose, if_pos (by simp [State.closeCan, ht, ho, hd])]
  obtain ⟨hhist, htxn, hawait, hsdo⟩ := State.dealings_eq_iff.mp
    ((State.stepTally_dealings _).trans s.decidedClose_dealings)
  obtain ⟨hconv, hqueue, htally⟩ := State.housekeeping_eq_iff.mp s.decidedClose_housekeeping
  have hpins := s.decidedClose.stepTally.closeHistory_pins s.exch.record
  have hstand : s.decidedClose.FlagsStand s.closeWord :=
    (State.FlagsStand.stepTally _).trans (.of_flags (State.closeHistory_flags _ _))
  dsimp only
  refine ⟨s.closeWord, hexec, ?_, ?_, s.closeWord_frame, fun hx => hstand _ (s.decidedClose_damaged hx), ?_,
    s.closeWord_config, ?_, ?_, fun hk => ?_, fun hk => ?_, fun hs => ?_, s.closeWord_dmd, ?_, s.closeWord_straps⟩
  · rw [State.closeWord_exch]; rfl
  · rw [State.closeWord_eq, State.closeHistory_history, hhist]; rfl
  · rw [State.closeWord_eq, State.closeHistory_txn, hhist, htxn]
  · rw [State.closeWord_eq, hpins.2, hsdo]
  · rw [State.closeWord_eq, hpins.1, hawait]
  · have hstep := State.stepTally_of_lt (s := s.decidedClose) (by simpa [htally] using hk)
    simp [State.closeWord_eq, hstep, hconv, hqueue, htally]
  · have hle : s.decidedClose.port.config.hkWords.toNat ≤ s.decidedClose.meas.tally + 1 := by simpa [htally] using hk
    refine ⟨?_, ?_, ?_, fun hq => ?_⟩
    · rw [State.closeWord_eq, State.closeHistory_meas, State.stepTally_of_le hle]; rfl
    · rw [State.closeWord_eq, State.closeHistory_meas, State.stepTally_of_le hle, ← hqueue]; rfl
    · rw [State.closeWord_eq, State.closeHistory_meas, State.stepTally_of_le hle, ← hconv]; rfl
    · have hlate := s.decidedClose.stepTally_late hle (by rwa [hqueue])
      exact State.FlagsStand.of_flags (State.closeHistory_flags _ _) _ hlate
  · simp [State.closeWord_eq, s.decidedClose_gen hs]
  · simp [State.closeWord_eq, s.decidedClose_causes]
end

section
/-! ## What changes the history and the roster unit -/

namespace Sys2Proof.Machine

/-- The station is in SETUP or in LISTEN. -/
def State.Outside (s : State) : Prop := s.ctl.state = .setup ∨ s.ctl.state = .listen

/-- From `b` to `s` the history stays within its bounds, and the roster unit is emptied, or it is unchanged and the
station has not come to SETUP or LISTEN from another state. -/
structure State.Rests (b s : State) : Prop where
  fits : HistoryFits b → HistoryFits s
  roster : s.roster = RosterUnit.emptied ∨ s.roster = b.roster ∧ (s.Outside → b.Outside)

/-- From `b` to `s` the word of a station in the barrier goes on at a drive point, which changes no more of the roster
unit than the sent check bit, or at a close (R47, R56, R74). -/
structure State.Advances (b s : State) : Prop where
  takingPart : b.frame.takingPart = true
  fits : HistoryFits b → HistoryFits s
  outside : s.Outside → b.Outside
  roster : (∃ sent, s.roster = { b.roster with sentCheck := sent }) ∨ s.exch.wordNumber = b.exch.wordNumber + 1

theorem HistoryFits.congr {s t : State} (h : HistoryFits s) (hh : t.port.history = s.port.history)
    (ht : t.port.txn = s.port.txn) : HistoryFits t := by
  simpa only [HistoryFits, hh, ht] using h

theorem HistoryFits.of_dealings {s t : State} (h : HistoryFits s) (hd : t.dealings = s.dealings) : HistoryFits t := by
  obtain ⟨hh, ht, -, -⟩ := State.dealings_eq_iff.mp hd
  exact h.congr hh ht

/-- A transaction that has no more to remove than the one before it (R183). -/
theorem HistoryFits.of_returned {s t : State} (h : HistoryFits s) (hh : t.port.history = s.port.history)
    (ht : ∀ x, t.port.txn = some x → x.returned = 0 ∨ ∃ y, s.port.txn = some y ∧ x.returned = y.returned) :
    HistoryFits t := by
  obtain ⟨hlen, hret⟩ := h
  refine ⟨hh ▸ hlen, fun x hx => ?_⟩
  rw [hh]
  obtain h0 | ⟨y, hy, he⟩ := ht x hx
  · omega
  · exact he ▸ hret y hy

/-- A record appended: the ninth pushes out the oldest, which a READ_HISTORY in progress then has not to remove (R182,
R183). -/
theorem HistoryFits.closeHistory {s : State} (h : HistoryFits s) (r : WordRecord) : HistoryFits (s.closeHistory r) := by
  obtain ⟨hlen, hret⟩ := h
  unfold HistoryFits
  rw [State.closeHistory_history, State.closeHistory_txn]
  split
  next h8 =>
    refine ⟨by simp; omega, fun t ht => ?_⟩
    obtain ⟨u, hu, rfl⟩ := Option.map_eq_some_iff.mp ht
    have := hret u hu
    simp; omega
  next h8 =>
    refine ⟨by simp; omega, fun t ht => ?_⟩
    have := hret t ht
    simp; omega

theorem HistoryFits.closeWord {s : State} (h : HistoryFits s) : HistoryFits s.closeWord :=
  (h.of_dealings ((State.stepTally_dealings _).trans s.decidedClose_dealings)).closeHistory _

theorem HistoryFits.drainHistory {s : State} (h : HistoryFits s) (t : Transaction) :
    HistoryFits (drainHistory t s) := by
  obtain ⟨hlen, -⟩ := h
  refine ⟨?_, fun x hx => ?_⟩
  · simp [Machine.drainHistory]; omega
  · obtain ⟨u, -, rfl⟩ := Option.map_eq_some_iff.mp hx
    exact Nat.zero_le _

theorem HistoryFits.fixRecords {s : State} (h : HistoryFits s) : HistoryFits s.fixRecords := by
  obtain ⟨hlen, -⟩ := h
  refine ⟨hlen, fun x hx => ?_⟩
  obtain rfl := Option.some.inj hx
  exact le_rfl

/-! Operations that leave the port's dealings alone. -/

@[simp] theorem State.sampleShr_dealings (s : State) : s.sampleShr.dealings = s.dealings :=
  State.dealings_of_port (by simp)

theorem State.tick_dealings (s : State) : s.tick.dealings = s.dealings := by
  unfold State.tick
  split
  · simp [State.dealings]
  · rfl

@[simp] theorem State.takeWait_dealings (s : State) : s.takeWait.dealings = s.dealings := by
  unfold State.takeWait
  split <;> simp

/-! The cut bit and the frame start leave the word number alone. -/

theorem State.judgeCutFrame_wordNumber (s : State) : s.judgeCutFrame.exch.wordNumber = s.exch.wordNumber := by
  unfold State.judgeCutFrame
  split
  · rw [State.unsettled_exch]; rfl
  · rfl

theorem State.startFrame_wordNumber (s : State) (i : Fin 30) :
    (s.startFrame i).exch.wordNumber = s.exch.wordNumber := by
  simp [State.startFrame_eq, State.counted_eq, ExchangeUnit.newFrame]

theorem State.riseTail_wordNumber (s : State) : s.riseTail.exch.wordNumber = s.exch.wordNumber := by
  unfold State.riseTail
  split
  · split
    · rfl
    · exact s.startFrame_wordNumber _
  · rfl

theorem State.judgeCutFrame_outside {s : State} (h : s.judgeCutFrame.Outside) : s.Outside := by
  unfold State.judgeCutFrame at h
  split at h
  · obtain hs | hs := s.unsettled_state s.indexNat
    · simpa only [State.Outside, hs] using h
    · simp [State.Outside, hs] at h
  · exact h

/-- At a drive point the roster unit keeps the bit it presents, and no more (R56). -/
theorem State.driveFrame_roster (s : State) (i : Nat) :
    ∃ sent, (s.driveFrame i).roster = { s.roster with sentCheck := sent } := by
  unfold State.driveFrame
  split
  · simp only [State.setExch_roster, State.keepCheckBit]
    split
    · exact ⟨some (s.openFields i).checkBit, by simp⟩
    · exact ⟨s.roster.sentCheck, by simp⟩
  · exact ⟨s.roster.sentCheck, rfl⟩

theorem State.closeWord_outside {s : State} (h : s.closeWord.Outside) : s.Outside := by
  obtain hs | hs := s.closeWord_state
  · simpa only [State.Outside, hs] using h
  · simp [State.Outside, hs] at h

namespace State.Rests

variable {b s t : State}

theorem refl (s : State) : s.Rests s := ⟨id, .inr ⟨rfl, id⟩⟩

theorem emptied (h : b.Rests s) (hd : t.dealings = s.dealings) (hr : t.roster = RosterUnit.emptied) : b.Rests t :=
  ⟨fun hb => (h.fits hb).of_dealings hd, .inl hr⟩

theorem of_outside (h : b.Rests s) (hf : HistoryFits s → HistoryFits t) (hr : t.roster = s.roster)
    (ho : t.Outside → s.Outside) : b.Rests t := by
  refine ⟨fun hb => hf (h.fits hb), ?_⟩
  obtain he | ⟨he, hs⟩ := h.roster
  · exact .inl (hr.trans he)
  · exact .inr ⟨hr.trans he, fun ht => hs (ho ht)⟩

theorem congr (h : b.Rests s) (hd : t.dealings = s.dealings) (hr : t.roster = s.roster)
    (hs : t.ctl.state = s.ctl.state) : b.Rests t :=
  h.of_outside (fun hf => hf.of_dealings hd) hr (fun ho => by simpa only [State.Outside, hs] using ho)

/-- The entry to a state other than SETUP and LISTEN. -/
theorem enters (h : b.Rests s) (hd : t.dealings = s.dealings) (hr : t.roster = s.roster) (ho : ¬t.Outside) :
    b.Rests t :=
  h.of_outside (fun hf => hf.of_dealings hd) hr (fun ht => absurd ht ho)

section
variable (h : b.Rests s)
include h

theorem setFrame (f : FrameUnit) : b.Rests (s.setFrame f) := h.congr rfl rfl rfl
theorem setExch (e : ExchangeUnit) : b.Rests (s.setExch e) := h.congr rfl rfl rfl
theorem setGen (g : PhaseGenerator) : b.Rests (s.setGen g) := h.congr rfl rfl rfl
theorem setMeas (m : MeasurementUnit) : b.Rests (s.setMeas m) := h.congr rfl rfl rfl
theorem setDmd (d : DemandMonitor) : b.Rests (s.setDmd d) := h.congr rfl rfl rfl
theorem setPending (q : List Instr) : b.Rests (s.setPending q) := h.congr rfl rfl rfl
theorem raise (f : Flag) : b.Rests (s.raise f) := h.congr rfl rfl rfl
theorem raiseIf (x : Bool) (f : Flag) : b.Rests (s.raiseIf x f) := h.congr (by simp) (by simp) (by simp)
theorem resumeLg : b.Rests s.resumeLg := h.congr (State.dealings_of_port (by simp)) (by simp) (by simp)
theorem stepTally : b.Rests s.stepTally := h.congr (by simp) (by simp) (by simp)

/-! ### The station controller -/

theorem removeCause (c : AsideCause) : b.Rests (s.removeCause c) := h.congr rfl rfl rfl

theorem enterAside : b.Rests s.enterAside :=
  h.enters (State.dealings_of_port (by simp)) (by simp) (by simp [State.Outside, State.enterAside_ctl])

theorem addCause (c : AsideCause) : b.Rests (s.addCause c) := by
  have hadded : b.Rests (s.setCtl { s.ctl with causes := s.ctl.causes.add c }) := h.congr rfl rfl rfl
  unfold State.addCause
  dsimp only
  split
  · exact hadded.enterAside
  · split
    · exact hadded.congr rfl rfl rfl
    · exact hadded

theorem enterFault (c : FaultCause) (n : Nat) : b.Rests (s.enterFault c n) :=
  h.enters (by simp) (by simp) (by simp [State.Outside, State.enterFault_ctl])

theorem declareFault (c : FaultCause) : b.Rests (s.declareFault c) := by
  unfold State.declareFault
  split
  · exact h
  · split
    · exact (h.setFrame _).enterFault c 0
    · exact h
  · exact h.raise _
  · exact h.enterFault c _

theorem enterHold : b.Rests s.enterHold :=
  h.enters (State.dealings_of_port (by simp)) (by simp) (by simp [State.Outside, State.enterHold])

theorem readHalt : b.Rests s.readHalt := by
  unfold State.readHalt
  dsimp only
  split
  iterate 4 exact (h.raise _).enterHold
  · exact (h.raise _).congr rfl rfl rfl
  · exact h.raise _

theorem enterDecision (d : Decision) : b.Rests (s.enterDecision d) :=
  h.enters (State.dealings_of_port (by simp)) (by simp)
    (by simp only [State.Outside, State.enterDecision_ctl]; exact d.entered_barred)

theorem takeDecided : b.Rests s.takeDecided := by
  unfold State.takeDecided
  split
  · exact h.enterDecision _
  · exact h

theorem endPart : b.Rests s.endPart := h.congr rfl rfl rfl

theorem rejoin (x : Bool) : b.Rests (s.rejoin x) := h.emptied rfl rfl

theorem startCheck : b.Rests s.startCheck := h.emptied (State.dealings_of_port (by simp)) s.startCheck_roster

theorem align : b.Rests s.align := ((h.setFrame _).setExch _).startCheck

theorem found : b.Rests s.found := ((h.setFrame _).setExch _).startCheck

/-- START moves a station from SETUP to LISTEN (R80). -/
theorem startStation : b.Rests s.startStation := by
  unfold State.startStation
  split
  next hs => exact h.of_outside id rfl (fun _ => .inl hs)
  next => exact h

/-! ### The bits of the word and the frame line -/

theorem enterBit (i : Nat) (r : ReadBit) : b.Rests (s.enterBit i r) := by
  unfold State.enterBit
  split
  · dsimp only
    split
    · exact h.setExch _
    · exact (h.setExch _).readHalt
  · split
    · split
      · exact h.setExch _
      · split
        · exact h.declareFault _
        · exact h
    · split <;> exact h.setExch _

theorem bitTime (i : Nat) (r : ReadBit) : b.Rests (s.bitTime i r) := (h.setExch _).enterBit i r

theorem judgeCutFrame : b.Rests s.judgeCutFrame := by
  unfold State.judgeCutFrame
  split
  · exact h.bitTime _ _
  · exact h

theorem qualifyFrm (v : Bool) : b.Rests (s.qualifyFrm v) := h.setFrame _

theorem openHigh : b.Rests s.openHigh := h.setFrame _

theorem warmRise : b.Rests s.warmRise := by
  rw [State.warmRise_eq]; exact h.congr rfl rfl rfl

theorem swapSchedule : b.Rests s.swapSchedule := h.congr rfl rfl rfl

theorem wordStart (first : Bool) : b.Rests (s.wordStart first) := by
  unfold State.wordStart
  dsimp only
  split
  · exact swapSchedule (h.takeDecided.congr rfl rfl rfl)
  · exact h.congr rfl rfl rfl

theorem startFrame (i : Fin 30) : b.Rests (s.startFrame i) := by
  have hwaited : b.Rests s.takeWait := h.congr (by simp) (by simp) (by simp)
  exact ((((hwaited.setFrame _).setExch _).setGen _).warmRise.wordStart _).resumeLg

theorem riseTail : b.Rests s.riseTail := by
  unfold State.riseTail
  split
  · split
    · exact h.openHigh.endPart
    · exact h.startFrame _
  · exact h

theorem markError : b.Rests s.markError := by
  have hnoted : b.Rests s.noteMarkError := ((h.raise _).setExch _).setFrame _
  rw [State.markError_eq]
  split
  · exact hnoted.rejoin false
  · exact hnoted

theorem classifyNormal : b.Rests s.classifyNormal := by
  unfold State.classifyNormal
  dsimp only
  split
  · exact (h.setFrame _).markError
  · exact h.setFrame _

theorem classifyMark : b.Rests s.classifyMark := by
  have hmarked : b.Rests s.marked := h.setFrame _
  rw [State.classifyMark_eq]
  split
  · split
    · exact hmarked.align
    · exact hmarked
  · split
    · exact hmarked.markError
    · exact hmarked

theorem fall : b.Rests s.fall := by
  have hfallen : b.Rests s.fallen := (h.congr (State.dealings_of_port (by simp)) (by simp) (by simp)).qualifyFrm false
  have hjudged : b.Rests s.judgedFall := by
    unfold State.judgedFall
    split
    · exact hfallen.classifyNormal
    · exact hfallen
  rw [State.fall_eq]
  split
  · exact hjudged.setFrame _
  · exact hjudged

theorem followFall : b.Rests s.followFall := by
  unfold State.followFall
  split
  · exact h.classifyMark.fall
  · exact h.fall

theorem startStuck : b.Rests s.startStuck := by
  rw [State.startStuck_eq]; exact h.setFrame _

theorem announceEnd : b.Rests s.announceEnd := by
  have hfewer : b.Rests (s.setCtl { s.ctl with announce := s.ctl.announce - 1, haltWord := false }) :=
    h.congr rfl rfl rfl
  unfold State.announceEnd
  dsimp only
  split
  · exact hfewer.endPart
  · exact hfewer.startStuck

/-! ### The phase generator -/

theorem countTruncated : b.Rests s.countTruncated := by
  unfold State.countTruncated
  dsimp only
  split
  · exact (h.setGen _).declareFault _
  · exact h.setGen _

theorem takePulse : b.Rests s.takePulse := by
  unfold State.takePulse
  split
  · split
    · exact h.countTruncated
    · exact h.setGen _
  · exact h

theorem takeOnPoint : b.Rests s.takeOnPoint := (h.resumeLg.setGen _).takePulse.resumeLg

theorem takeOwedPoint : b.Rests s.takeOwedPoint := by
  unfold State.takeOwedPoint
  dsimp only
  split
  · exact (h.setGen _).raise _
  · exact h.setGen _

theorem cutByOci : b.Rests s.cutByOci := by
  unfold State.cutByOci
  dsimp only
  split
  · exact (h.setGen _).countTruncated
  · exact h.setGen _

theorem swapAtFrameZero : b.Rests s.swapAtFrameZero := by
  unfold State.swapAtFrameZero
  split
  · exact h.swapSchedule
  · exact h

/-! ### The measurement unit and the demand monitor -/

theorem takeTemperature (code : Reading) : b.Rests (s.takeTemperature code) := by
  unfold State.takeTemperature
  dsimp only
  split
  · exact (h.setMeas _).declareFault _
  · split
    · exact (h.setMeas _).rejoin false
    · exact h.setMeas _

theorem takeVoltage (code : Reading) : b.Rests (s.takeVoltage code) := by
  unfold State.takeVoltage
  dsimp only
  split
  · exact ((h.setMeas _).raise _).addCause _
  · split
    · exact (h.setMeas _).removeCause _
    · exact h.setMeas _

theorem takeResult (c : Conversion) (code : Reading) : b.Rests (s.takeResult c code) := by
  unfold State.takeResult
  dsimp only
  split
  · rw [State.takeCurrent_eq]; exact (h.setMeas _).setMeas _
  · exact (h.setMeas _).takeTemperature _
  · exact (h.setMeas _).takeVoltage _

theorem passValid : b.Rests s.passValid := by
  unfold State.passValid
  split
  · exact (h.setDmd _).removeCause _
  · exact h

theorem passLost : b.Rests s.passLost := by
  unfold State.passLost
  split
  · exact ((h.setDmd _).raise _).addCause _
  · exact h

theorem badPeriod : b.Rests s.badPeriod := (h.setDmd _).passLost

theorem judgePeriod (p : Nat) : b.Rests (s.judgePeriod p) := by
  unfold State.judgePeriod
  split
  · exact (h.setDmd _).passValid
  · exact h.badPeriod

/-! ### Reset and the setup port -/

/-- A change of the port's own, with no more records to remove (R183). -/
theorem setPort (p : PortUnit) (hp : HistoryFits s → HistoryFits (s.setPort p)) : b.Rests (s.setPort p) :=
  h.of_outside hp rfl id

theorem sampleStraps (x : Straps) (low : Bool) : b.Rests (s.sampleStraps x low) :=
  h.of_outside (fun hf => hf.congr rfl rfl) rfl id

theorem beginTransaction (cmd : PortCommand) (r : ResultCode) (out : List Byte) :
    b.Rests (s.beginTransaction cmd r out) :=
  h.setPort _ fun hf => hf.of_returned rfl fun _ hx => .inl (by rw [← Option.some.inj hx])

theorem commandByte (cmd : PortCommand) (r : ResultCode) (out : List Byte) : b.Rests (s.commandByte cmd r out) := by
  unfold State.commandByte
  split
  · exact h.beginTransaction _ _ _
  · exact h

theorem snapshot : b.Rests s.snapshot :=
  h.of_outside (fun hf => hf.of_returned rfl fun _ hx => .inl (by rw [← Option.some.inj hx])) rfl id

theorem laterByte (cmd : PortCommand) (effect : Transaction → State → State)
    (he : ∀ t u, b.Rests u → b.Rests (effect t u)) : b.Rests (s.laterByte cmd effect) := by
  unfold State.laterByte
  split
  next t ht =>
    split
    · exact he t _ (h.setPort _ fun hf => hf.of_returned rfl fun _ hx => .inr ⟨t, ht, by rw [← Option.some.inj hx]⟩)
    · exact h
  next => exact h

theorem atByte (n : Nat) (effect : Transaction → State → State) (t : Transaction) (he : b.Rests (effect t s)) :
    b.Rests (atByte n effect t s) := by
  unfold Machine.atByte
  split
  · exact he
  · exact h

theorem keepByte (sdi : Byte) (t : Transaction) : b.Rests (keepByte sdi t s) := by
  unfold Machine.keepByte
  split
  · refine h.setPort _ fun hf => hf.of_returned rfl fun _ hx => .inr ?_
    obtain ⟨y, hy, rfl⟩ := Option.map_eq_some_iff.mp hx
    exact ⟨y, hy, rfl⟩
  · exact h

theorem replaceRecord (sdi : Byte) (t : Transaction) : b.Rests (replaceRecord sdi t s) := by
  unfold Machine.replaceRecord
  split
  · exact h.setPort _ fun hf => hf.congr rfl rfl
  · exact h

theorem takeAside (t : Transaction) : b.Rests (takeAside t s) := by
  unfold Machine.takeAside
  split
  · exact h
  · exact h.addCause _

end

/-- A reset leaves no record and no transaction, and the roster unit empty (R57, R185). -/
theorem resetBlocks (s : State) : s.Rests s.resetBlocks :=
  ⟨fun _ => ⟨Nat.zero_le 8, fun _ ht => nomatch ht⟩, .inl rfl⟩

end State.Rests

/-! ### Every command, and time -/

theorem eq_or_of_whenDue {x : Bool} {s after t : State} (e : whenDue x s after = .next t) :
    t = s ∨ x = true ∧ t = after := by
  simp only [whenDue, Host.Outcome.next.injEq] at e
  subst e
  cases x
  · exact .inl rfl
  · exact .inr ⟨rfl, rfl⟩

namespace State.Rests

variable {s t : State}

theorem whenDue {x : Bool} {after : State} (ha : s.Rests after) (e : whenDue x s after = .next t) : s.Rests t := by
  obtain rfl | ⟨-, rfl⟩ := eq_or_of_whenDue e
  · exact refl _
  · exact ha

theorem done {after : State} (ha : s.Rests after) (e : done after = .next t) : s.Rests t := by
  simp only [Machine.done, Host.Outcome.next.injEq] at e
  exact e ▸ ha

end State.Rests

theorem State.Advances.driveFrame {s : State} (ht : s.frame.takingPart = true) (i : Nat) :
    s.Advances (s.driveFrame i) where
  takingPart := ht
  fits hf := hf.of_dealings (State.dealings_of_port (by simp))
  outside ho := by simpa [State.Outside] using ho
  roster := .inl (s.driveFrame_roster i)

theorem State.Advances.closeWord {s : State} (ht : s.frame.takingPart = true) : s.Advances s.closeWord where
  takingPart := ht
  fits hf := hf.closeWord
  outside := State.closeWord_outside
  roster := .inr (by rw [State.closeWord_exch])

/-- The frame start of a station that takes part makes a due close first (R40). -/
theorem State.alignedRise_cases {s : State} (ht : s.frame.takingPart = true) :
    s.Rests s.alignedRise ∨ s.Advances s.alignedRise := by
  have hjudged : s.Rests s.judgeCutFrame := (State.Rests.refl s).judgeCutFrame
  rw [State.alignedRise_eq, State.takeDueClose]
  split
  next hd =>
    set u := s.judgeCutFrame.closeWord with hu
    have htail : u.Rests u.riseTail := (State.Rests.refl u).riseTail
    have hfits : HistoryFits s → HistoryFits u.riseTail := fun hf => htail.fits (hjudged.fits hf).closeWord
    obtain he | ⟨-, ho⟩ := htail.roster
    · exact .inl ⟨hfits, .inl he⟩
    · refine .inr ⟨ht, hfits, fun h => State.judgeCutFrame_outside (State.closeWord_outside (ho h)), .inr ?_⟩
      rw [State.riseTail_wordNumber, hu, State.closeWord_exch]
      exact congrArg (· + 1) s.judgeCutFrame_wordNumber
  next => exact .inl hjudged.riseTail

/-- What a command can do to the history and the roster unit: only a drive point and a close are no rest. -/
theorem exec_cases {s t : State} (c : Instr) (e : exec c s = .next t) : s.Rests t ∨ s.Advances t := by
  have h := State.Rests.refl s
  cases c with
  | reset => exact .inl ((State.Rests.resetBlocks s).done e)
  | resetRelease x low =>
    refine .inl (.whenDue ?_ e)
    split
    · exact (h.sampleStraps x low).startStation
    · exact h.sampleStraps x low
  | frameStart =>
    obtain rfl | ⟨-, rfl⟩ := eq_or_of_whenDue e
    · exact .inl h
    · split
      · exact .inl ((h.qualifyFrm true).setFrame _)
      · split
        next ht =>
          obtain hr | ha := State.alignedRise_cases (s := s.qualifyFrm true) ht
          · exact .inl ⟨hr.fits, hr.roster⟩
          · exact .inr ⟨ha.takingPart, ha.fits, ha.outside, ha.roster⟩
        next => exact .inl (h.qualifyFrm true).openHigh
  | frameFallingEdge =>
    refine .inl (.whenDue ?_ e)
    split
    · exact h.followFall
    · exact h.qualifyFrm false
  | markClassified => exact .inl (h.classifyMark.whenDue e)
  | pullPoint => exact .inl ((h.setFrame _).whenDue e)
  | ownEnd =>
    have hreleased : s.Rests s.releaseFrm := h.setFrame _
    refine .inl (.whenDue ?_ e)
    split
    · exact hreleased.endPart
    · split
      · exact hreleased.announceEnd
      · exact hreleased.startStuck
  | stuck =>
    refine .inl (.whenDue ?_ e)
    split
    · exact (h.raise .stuck).endPart.congr rfl rfl rfl
    · exact (h.raise .stuck).rejoin true
  | listenStuckDeclared => exact .inl (((h.raise .stuck).setFrame _).whenDue e)
  | founding => exact .inl (h.found.whenDue e)
  | freeRunFrame =>
    refine .inl (.whenDue ?_ e)
    split
    · exact ((h.setFrame _).setMeas _).stepTally
    · exact (h.setFrame _).setMeas _
  | drivePoint =>
    obtain rfl | ⟨hd, rfl⟩ := eq_or_of_whenDue e
    · exact .inl h
    · simp only [State.driveDue, Bool.and_eq_true] at hd
      obtain ⟨⟨⟨ht, -⟩, -⟩, -⟩ := hd
      exact .inr (.driveFrame ht _)
  | bitTime sample => exact .inl (((h.setExch _).bitTime _ _).whenDue e)
  | wordClose =>
    obtain rfl | ⟨hd, rfl⟩ := eq_or_of_whenDue e
    · exact .inl h
    · simp only [State.closeCan, Bool.and_eq_true] at hd
      obtain ⟨⟨ht, -⟩, -⟩ := hd
      exact .inr (.closeWord ht)
  | housekeepingPace => exact .inl ((h.setMeas _).stepTally.whenDue e)
  | warmUpComplete =>
    refine .inl (.whenDue ?_ e)
    split
    · exact (h.enterDecision .active).swapAtFrameZero.resumeLg
    · exact h.enterDecision .parked
  | leadPoint => exact .inl ((h.setGen _).whenDue e)
  | onPoint =>
    refine .inl (.done ?_ e)
    split
    · exact h.takeOnPoint
    · split
      · exact h.takeOwedPoint
      · exact h
  | pulseEnd => exact .inl ((h.setGen _).whenDue e)
  | deadTimeRunOut => exact .inl ((h.setGen _).whenDue e)
  | currentTrigger =>
    refine .inl (.whenDue ?_ e)
    split
    · exact (h.setGen _).setMeas _
    · exact h.setGen _
  | ociAssert =>
    have hhigh := h.setGen { s.gen with oci := Filter.settle 2 true }
    refine .inl (.whenDue ?_ e)
    split
    · exact hhigh.cutByOci
    · split
      · exact (hhigh.setGen _).raise _
      · exact hhigh
  | conversionComplete code =>
    refine .inl (.whenDue ?_ e)
    split
    · exact (h.takeResult _ _).setMeas _
    · exact h
  | dmdActiveEdge =>
    refine .inl (State.Rests.whenDue (State.Rests.setDmd ?_ _) e)
    split
    · exact (h.setDmd _).judgePeriod _
    · exact h
  | dmdInactiveEdge => exact .inl ((h.setDmd _).whenDue e)
  | dmdTimeout => exact .inl ((h.setDmd _).badPeriod.whenDue e)
  | ident byte | readConfig byte | readRoster byte =>
    cases byte with
    | command => exact .inl ((h.commandByte _ _ _).done e)
    | later sdi => exact .inl ((h.laterByte _ _ fun _ _ hu => hu).done e)
  | writeConfig byte =>
    cases byte with
    | command => exact .inl ((h.commandByte _ _ _).done e)
    | later sdi =>
      refine .inl ((h.laterByte _ _ fun t u hu => ?_).done e)
      exact (hu.keepByte sdi t).atByte 50 _ t ((hu.keepByte sdi t).replaceRecord sdi t)
  | start byte =>
    cases byte with
    | command => exact .inl ((h.commandByte _ _ _).done e)
    | later sdi => exact .inl ((h.laterByte _ _ fun t _ hu => hu.atByte 2 _ t hu.startStation).done e)
  | readStatus byte =>
    cases byte with
    | command =>
      refine .inl (.done ?_ e)
      split
      · exact h.snapshot
      · exact h
    | later sdi =>
      refine .inl ((h.laterByte _ _ fun t u hu => hu.atByte 3 _ t ?_).done e)
      exact hu.setPort _ fun hf => hf.congr rfl rfl
  | readHistory byte =>
    cases byte with
    | command =>
      refine .inl (.done ?_ e)
      split
      · exact h.of_outside (fun hf => hf.fixRecords) rfl id
      · exact h
    | later sdi =>
      refine .inl ((h.laterByte _ _ fun t u hu => hu.atByte 3 _ t ?_).done e)
      exact hu.of_outside (fun hf => hf.drainHistory t) rfl id
  | aside byte =>
    cases byte with
    | command => exact .inl ((h.commandByte _ _ _).done e)
    | later sdi => exact .inl ((h.laterByte _ _ fun t _ hu => hu.atByte 2 _ t (hu.takeAside t)).done e)
  | ret byte =>
    cases byte with
    | command => exact .inl ((h.commandByte _ _ _).done e)
    | later sdi => exact .inl ((h.laterByte _ _ fun t _ hu => hu.atByte 2 _ t (hu.removeCause _)).done e)
  | clearFault byte =>
    cases byte with
    | command => exact .inl ((h.commandByte _ _ _).done e)
    | later sdi => exact .inl ((h.laterByte _ _ fun t _ hu => hu.atByte 2 _ t (hu.rejoin false)).done e)
  | unknown code byte =>
    cases byte with
    | command =>
      refine .inl (.done ?_ e)
      split
      · exact h.commandByte _ _ _
      · exact h
    | later sdi => exact .inl ((h.laterByte _ _ fun _ _ hu => hu).done e)
  | transactionCut =>
    have hcut : s.Rests (s.setPort s.port.deselect) :=
      h.setPort _ fun hf => hf.of_returned rfl fun _ hx => nomatch hx
    exact .inl (hcut.whenDue e)
  | frmFirstQualifiedLevel high =>
    refine .inl (.whenDue ?_ e)
    split
    · exact (h.qualifyFrm high).setFrame _
    · exact h.qualifyFrm high

/-- The step on an empty queue: one count, or a due event that joins the queue. -/
theorem State.Rests.idle (s : State) : s.Rests s.idle := by
  unfold State.idle
  split
  · exact (State.Rests.refl s).congr s.tick_dealings (by simp) (by simp)
  · exact (State.Rests.refl s).setPending _
  · exact (State.Rests.refl s).congr rfl rfl rfl

theorem step_cases {s t : State} (e : step s = .next t) : s.Rests t ∨ s.Advances t := by
  unfold step at e
  split at e
  next c rest _ =>
    obtain hr | ha := exec_cases c e
    · exact .inl ⟨hr.fits, hr.roster⟩
    · exact .inr ⟨ha.takingPart, ha.fits, ha.outside, ha.roster⟩
  next => exact .inl ((State.Rests.idle s).done e)

theorem HistoryFits.step {s t : State} (h : HistoryFits s) (e : step s = .next t) : HistoryFits t := by
  obtain hr | ha := step_cases e
  · exact hr.fits h
  · exact ha.fits h

/-- The roster unit of a listener is untouched or emptied again, for a listener takes no part in the barrier (R32). -/
theorem RosterFits.step {s t : State} (hs : StationFits s) (h : RosterFits s) (e : step s = .next t) :
    RosterFits t := by
  intro ho
  obtain hr | ha := step_cases e
  · obtain he | ⟨he, hb⟩ := hr.roster
    · exact he
    · exact he.trans (h (hb ho))
  · obtain ⟨hset, hlisten⟩ := hs.1.state_of_takingPart ha.takingPart
    exact absurd (ha.outside ho) (by simp [State.Outside, hset, hlisten])

/-- Without a word close only the sent check bit changes, or the unit is emptied (R57, R69). -/
theorem roster_of_step {s t : State} (e : step s = .next t) (hw : t.exch.wordNumber = s.exch.wordNumber) :
    (∃ sent, t.roster = { s.roster with sentCheck := sent }) ∨ t.roster = RosterUnit.emptied := by
  obtain hr | ha := step_cases e
  · obtain he | ⟨he, -⟩ := hr.roster
    · exact .inr he
    · exact .inl ⟨s.roster.sentCheck, he⟩
  · obtain hsent | hnext := ha.roster
    · exact .inl hsent
    · have hne : s.exch.wordNumber + 1 ≠ s.exch.wordNumber := by bv_omega
      exact absurd (hnext.symm.trans hw) hne

end Sys2Proof.Machine

open Sys2Proof Sys2Proof.Machine

/-- Settles O60: what a step can do to the roster unit and the history is `step_cases`. -/
theorem historyStaysBoundedAndRosterHolds : Obligations.HistoryStaysBoundedAndRosterHolds :=
  ⟨fun _ _ h e => h.step e, fun _ _ hs h e => h.step hs e, fun _ _ e hw => roster_of_step e hw⟩
end

section
/-! ## The drive point -/

namespace Sys2Proof.Machine

theorem State.indexNat_of_index {s : State} {i : Fin 30} (hi : s.frame.index = some i) : s.indexNat = i.val := by
  simp [State.indexNat, hi]

theorem exec_drivePoint_of_due {s : State} {i : Fin 30} (ht : s.frame.takingPart = true)
    (hi : s.frame.index = some i) (hc : s.frame.counter = 56) (hd : s.exch.driven = false) :
    exec .drivePoint s = .next (s.driveFrame i.val) := by
  rw [← State.indexNat_of_index hi]
  exact whenDue_of_true (by simp [State.driveDue, ht, hi, hc, hd]) _ _

/-- The check frame of every slot lies before the fields (R35). -/
theorem State.checkFrame_lt (s : State) : s.checkFrame < 17 := by
  have := s.code_le
  unfold State.checkFrame; omega

theorem State.presenceFrame_lt (s : State) : s.presenceFrame < 17 := by
  have := s.code_le
  unfold State.presenceFrame; omega

theorem State.keepCheckBit_eq (s : State) (i : Nat) :
    s.keepCheckBit i
      = s.setRoster (if i = s.checkFrame then { s.roster with sentCheck := some s.checkBit } else s.roster) := by
  unfold State.keepCheckBit; split <;> rfl

/-- What is presented does not depend on the sent check bit kept beside it. -/
theorem State.keepCheckBit_presented (s : State) (i : Nat) : (s.keepCheckBit i).presented i = s.presented i := by
  rw [State.keepCheckBit_eq]; split <;> rfl

theorem State.presented_of_census {s : State} {i : Nat} (h17 : i < 17) :
    s.presented i
      = if i = 0 then s.ctl.state == .fault && s.ctl.haltWord
        else if i = s.presenceFrame then s.ctl.state.isMember
        else if i = s.checkFrame then s.checkBit.bit
        else false := by
  simp only [State.presented, if_pos h17]

theorem State.presented_of_phase {s : State} {i : Nat} (h17 : 17 ≤ i) (h20 : i < 20) :
    s.presented i = s.exch.phase.bitAt (19 - i) := by
  have hp := s.presenceFrame_lt
  have hc := s.checkFrame_lt
  rw [State.presented, if_neg (by omega), if_neg (by omega), if_neg (by omega), if_neg (by omega), if_pos h20]

theorem State.presented_of_current {s : State} {i : Nat} (h20 : 20 ≤ i) :
    s.presented i = s.exch.current.bitAt (29 - i) := by
  have hp := s.presenceFrame_lt
  have hc := s.checkFrame_lt
  rw [State.presented, if_neg (by omega), if_neg (by omega), if_neg (by omega), if_neg (by omega), if_neg (by omega)]

/-! The drive point by the frame it falls in. -/

theorem State.driveFrame_of_open {s : State} (ho : s.exch.wordOpen = true) (i : Nat) :
    s.driveFrame i
      = ((s.openFields i).keepCheckBit i).setExch
        { (s.openFields i).exch with drive := (s.openFields i).presented i, driven := true } := by
  rw [State.driveFrame, if_pos ho]
  dsimp only
  rw [State.keepCheckBit_exch, State.keepCheckBit_presented]

theorem State.driveFrame_of_closed {s : State} (ho : s.exch.wordOpen = false) (i : Nat) :
    s.driveFrame i = s.setExch { s.exch with drive := false, driven := true } := by
  simp [State.driveFrame, ho]

/-- In the frames before the fields no field opens (R35, R36, R56). -/
theorem State.driveFrame_of_census {s : State} {i : Nat} (ho : s.exch.wordOpen = true) (h17 : i < 17) :
    s.driveFrame i = (s.keepCheckBit i).setExch { s.exch with drive := s.presented i, driven := true } := by
  have hopen : s.openFields i = s := by rw [State.openFields, if_neg (by omega), if_neg (by omega)]
  rw [State.driveFrame_of_open ho, hopen]

/-- In the phase field's frames its own bit is driven, and nothing is kept (R43, R44). -/
theorem State.driveFrame_of_phase {s : State} {i : Nat} (ho : s.exch.wordOpen = true) (h17 : 17 ≤ i) (h20 : i < 20) :
    s.driveFrame i
      = s.setExch
        { s.exch with phase := s.drivePhase i, drive := (s.drivePhase i).bitAt (19 - i), driven := true } := by
  have hopen : s.openFields i = s.setExch { s.exch with phase := s.drivePhase i } := if_pos ⟨h17, h20⟩
  have hc := (s.openFields i).checkFrame_lt
  rw [State.driveFrame_of_open ho, State.presented_of_phase h17 h20, State.keepCheckBit, if_neg (by omega), hopen]
  rfl

/-- The same for the current field (R43, R44, R144). -/
theorem State.driveFrame_of_current {s : State} {i : Nat} (ho : s.exch.wordOpen = true) (h20 : 20 ≤ i) :
    s.driveFrame i
      = s.setExch
        { s.exch with current := s.driveCurrent i, drive := (s.driveCurrent i).bitAt (29 - i), driven := true } := by
  have hopen : s.openFields i = s.setExch { s.exch with current := s.driveCurrent i } := by
    rw [State.openFields, if_neg (by omega), if_pos h20]
  have hc := (s.openFields i).checkFrame_lt
  rw [State.driveFrame_of_open ho, State.presented_of_current h20, State.keepCheckBit, if_neg (by omega), hopen]
  rfl

/-! The fields at a drive point: opened in their first frame by a contender, later only left (R43, R46). -/

theorem State.drivePhase_of_member {s : State} (hm : s.ctl.state.isMember = true) :
    s.drivePhase 17 = Field.openWith (BitVec.ofNat 3 (s.ctl.request - 1)) := by
  simp [State.drivePhase, hm]

theorem State.drivePhase_of_not_member {s : State} (hm : s.ctl.state.isMember = false) :
    s.drivePhase 17 = s.exch.phase := by
  simp [State.drivePhase, hm]

theorem State.drivePhase_of_later {s : State} {i : Nat} (hi : 17 < i) :
    s.drivePhase i = s.exch.phase.stopUnless s.ctl.state.isMember :=
  if_neg (by omega)

theorem State.driveCurrent_of_sharing {s : State} (hs : (s.ctl.state == .active && s.meas.shareValid) = true) :
    s.driveCurrent 20 = Field.openWith s.meas.share := by
  simp only [Bool.and_eq_true, beq_iff_eq] at hs
  simp [State.driveCurrent, hs]

theorem State.driveCurrent_of_not_sharing {s : State} (hs : (s.ctl.state == .active && s.meas.shareValid) = false) :
    s.driveCurrent 20 = s.exch.current := by
  have hn : ¬(s.ctl.state = .active ∧ s.meas.shareValid = true) := by simpa using hs
  simp [State.driveCurrent, hn]

theorem State.driveCurrent_of_later {s : State} {i : Nat} (hi : 20 < i) :
    s.driveCurrent i = s.exch.current.stopUnless (s.ctl.state == .active) :=
  if_neg (by omega)

/-- A station that does not contend drives 0 in the field (R44). -/
theorem Field.bitAt_of_not_contending {w : Nat} {f : Field w} (h : f.contending = false) (k : Nat) :
    f.bitAt k = false := by
  simp [Field.bitAt, h]

end Sys2Proof.Machine

open Sys2Proof Sys2Proof.Machine

/-- Settles O18: the drive point by the frame it falls in, no word, census, phase field or current field. -/
theorem drivePointPresentsHaltAndCensus : Obligations.DrivePointPresentsHaltAndCensus := by
  refine ⟨fun s i ht hi hc hd => ?_, fun s i ht hi hc hd ho => ?_⟩ <;> rw [exec_drivePoint_of_due ht hi hc hd]
  · refine ⟨fun ho => ?_, fun ho h17 => ?_⟩
    · rw [State.driveFrame_of_closed ho]; rfl
    · rw [State.driveFrame_of_census ho h17, State.keepCheckBit_eq, State.presented_of_census h17]; rfl
  · refine ⟨fun h17 hm => ?_, fun h17 hm hf => ?_, fun h17 h20 => ?_, fun h20 hs => ?_, fun h20 hs hf => ?_,
      fun h20 => ?_⟩
    · rw [State.driveFrame_of_phase ho (by omega) (by omega), h17, State.drivePhase_of_member hm]; rfl
    · rw [State.driveFrame_of_phase ho (by omega) (by omega), h17, State.drivePhase_of_not_member hm,
        Field.bitAt_of_not_contending hf]
      rfl
    · rw [State.driveFrame_of_phase ho h17.le h20, State.drivePhase_of_later h17]; rfl
    · rw [State.driveFrame_of_current ho (by omega), h20, State.driveCurrent_of_sharing hs]; rfl
    · rw [State.driveFrame_of_current ho (by omega), h20, State.driveCurrent_of_not_sharing hs,
        Field.bitAt_of_not_contending hf]
      rfl
    · rw [State.driveFrame_of_current ho h20.le, State.driveCurrent_of_later h20]; rfl
end

section
/-! ## The bit time -/

namespace Sys2Proof.Machine

/-- The word in progress with its frame's samples complete and their judgement's damage (R38, R39). -/
def ExchangeUnit.judged (e : ExchangeUnit) (l : List Bool) : ExchangeUnit :=
  { e with samples := l, damaged := e.damaged || judge l == .unsettled }

/-- Four samples settle the bit exactly when they agree (R38). -/
theorem judge_four :
    ∀ a b c d : Bool, judge [a, b, c, d] = if a = b ∧ b = c ∧ c = d then ReadBit.settled a else .unsettled := by
  decide

/-- At the fourth sample the judged bit enters the word (R38, R39, R41). -/
theorem exec_bitTime_of_fourth {s : State} {i : Fin 30} {a b c : Bool} (d : Bool) (ht : s.frame.takingPart = true)
    (ho : s.exch.wordOpen = true) (hi : s.frame.index = some i) (hn : s.frame.counter = s.sampleAt + 6)
    (hs : s.exch.samples = [a, b, c]) :
    exec (.bitTime d) s
      = .next ((s.setExch (s.exch.judged [a, b, c, d])).enterBit i.val (judge [a, b, c, d])) := by
  rw [exec_bitTime_of_due (by simp [State.bitDue, State.sampling, ht, ho, hn, hs]), State.lastSample,
    State.indexNat_of_index hi, hs]
  rfl

/-! What the judged bit does by the frame it belongs to (R41). -/

theorem State.enterBit_of_presence {s : State} {i : Nat} (h17 : i < 17) (hodd : i % 2 = 1) (r : ReadBit) :
    s.enterBit i r = s.setExch { s.exch with presence := s.exch.presence ++ [r] } := by
  rw [State.enterBit, if_neg (by omega), if_pos h17, if_pos hodd]

theorem State.seesDuplicate_iff {s : State} {r : ReadBit} :
    s.seesDuplicate r = true
      ↔ s.ctl.state.isMember = true ∧ s.roster.sentCheck = some ⟨false, true⟩ ∧ r = .one := by
  simp [State.seesDuplicate, and_assoc]

/-- A check frame's bit enters nothing unless it shows a duplicate (R73). -/
theorem State.enterBit_of_check {s : State} {i : Nat} {r : ReadBit} (h0 : 0 < i) (h17 : i < 17) (heven : i % 2 = 0)
    (hd : ¬(i = s.checkFrame ∧ s.seesDuplicate r = true)) : s.enterBit i r = s := by
  rw [State.enterBit, if_neg (by omega), if_pos h17, if_neg (by omega), if_neg hd]

theorem State.enterBit_of_phase {s : State} {i : Nat} (h17 : 17 ≤ i) (h20 : i < 20) (r : ReadBit) :
    s.enterBit i r
      = s.setExch { s.exch with phase := s.exch.phase.takeBit r s.exch.drive (s.holdsPhase i) } := by
  rw [State.enterBit, if_neg (by omega), if_neg (by omega), if_pos h20]

theorem State.enterBit_of_current {s : State} {i : Nat} (h20 : 20 ≤ i) (r : ReadBit) :
    s.enterBit i r
      = s.setExch
        { s.exch with
          current := s.exch.current.takeBit r s.exch.drive (s.holdsCurrent i)
          closeDue := s.exch.closeDue || i == 29 } := by
  rw [State.enterBit, if_neg (by omega), if_neg (by omega), if_neg (by omega)]

theorem State.enterBit_of_no_halt {s : State} {r : ReadBit} (hr : r = .zero) :
    s.enterBit 0 r = s.setExch { s.exch with halt := some r } := by
  rw [State.enterBit, if_pos rfl, if_pos hr]

/-- A halt value other than a settled 0 is a halt read (R41, R162). -/
theorem State.enterBit_of_halt {s : State} {r : ReadBit} (hr : r ≠ .zero) :
    s.enterBit 0 r = s.readHalt.setExch { s.exch with halt := some r } := by
  rw [State.enterBit, if_pos rfl, if_neg hr, State.readHalt_setExch]

/-- In frame 0 a judged bit other than a settled 0 is a halt read, entered in the word (R41, R162). -/
theorem exec_bitTime_of_halt {s : State} {a b c d : Bool} (ht : s.frame.takingPart = true)
    (ho : s.exch.wordOpen = true) (hi : s.frame.index = some 0) (hn : s.frame.counter = s.sampleAt + 6)
    (hs : s.exch.samples = [a, b, c]) (hr : judge [a, b, c, d] ≠ .zero) :
    exec (.bitTime d) s
      = .next
        (s.readHalt.setExch { s.exch.judged [a, b, c, d] with halt := some (judge [a, b, c, d]) }) := by
  rw [exec_bitTime_of_fourth d ht ho hi hn hs]
  refine congrArg _ ((State.enterBit_of_halt hr).trans ?_)
  rw [State.readHalt_setExch]
  rfl

/-! Whether a contender stays in its field at the bit time of a frame, by the frame's index (log 18). -/

theorem index_beq_val (i k : Fin 30) : (i.val == k.val) = (i == k) := by
  rw [Bool.eq_iff_iff]
  simp [Fin.ext_iff]

theorem State.holdsPhase_index (s : State) (i : Fin 30) :
    s.holdsPhase i.val = (i != 19 || s.ctl.state.isMember) :=
  congrArg (fun last => !last || s.ctl.state.isMember) (index_beq_val i 19)

theorem State.holdsCurrent_index (s : State) (i : Fin 30) :
    s.holdsCurrent i.val = (i != 29 || s.ctl.state == .active) :=
  congrArg (fun last => !last || s.ctl.state == .active) (index_beq_val i 29)

/-! What a halt read does by the station's state (R162, R163, R166, R169). -/

/-- The entry to HOLD as one update (R163). -/
theorem State.enterHold_eq (s : State) :
    s.enterHold
      = { s with
          gen := s.gen.stop
          meas := s.meas.leaveActive
          ctl :=
            { s.ctl with
              state := .hold, decided := none, holdCount := s.port.config.holdWords.toNat, shedRun := 0
              warmCount := 0, cold := s.ctl.state == .parked || s.ctl.state == .warming
              bias := s.ctl.bias && !(s.ctl.state == .parked || s.ctl.state == .warming) } } := rfl

theorem State.enterHold_raise (s : State) (f : Flag) : (s.raise f).enterHold = s.enterHold.raise f := rfl

theorem State.readHalt_of_switching {s : State}
    (h : s.ctl.state = .active ∨ s.ctl.state = .shed ∨ s.ctl.state = .parked ∨ s.ctl.state = .warming) :
    s.readHalt = s.enterHold.raise .haltSeen := by
  rw [← State.enterHold_raise, State.readHalt]
  rcases h with h | h | h | h <;> rw [h]

theorem State.readHalt_of_hold {s : State} (h : s.ctl.state = .hold) :
    s.readHalt
      = (s.raise .haltSeen).setCtl { s.ctl with holdCount := s.port.config.holdWords.toNat } := by
  unfold State.readHalt
  rw [h]

theorem State.readHalt_of_not_member {s : State} (h : s.ctl.state.isMember = false) :
    s.readHalt = s.raise .haltSeen := by
  unfold State.readHalt
  split
  iterate 5 next hs => simp [hs, StationState.isMember] at h
  next => rfl

/-- The immediate stop restarts the dead time exactly if a gate was on (R117, R124). -/
theorem PhaseGenerator.stop_deadTimer (g : PhaseGenerator) :
    g.stop.deadTimer = if g.hg = true ∨ g.lg = true then some 0 else g.deadTimer :=
  congrArg PhaseGenerator.deadTimer g.rejoin_eq

end Sys2Proof.Machine

open Sys2Proof Sys2Proof.Machine

/-- Settles O20: the judged bit enters the word by its frame, a presence, check, phase or current frame. -/
theorem bitTimeJudgesTheSamples : Obligations.BitTimeJudgesTheSamples := by
  refine ⟨fun s i a b c d ht ho hi hn hs => ?_, fun s i a b c d ht ho hi hn hs => ?_⟩ <;>
    rw [exec_bitTime_of_fourth d ht ho hi hn hs, ← judge_four]
  · refine ⟨fun h17 hodd => ?_, fun h0 h17 heven hd => ?_⟩
    · rw [State.enterBit_of_presence h17 hodd]; rfl
    · rw [State.enterBit_of_check h0 h17 heven]
      · rfl
      · rintro ⟨hown, hdup⟩
        obtain ⟨hm, hsent, hone⟩ := State.seesDuplicate_iff.mp hdup
        rcases hd with h | h | h | h
        · exact h hown
        · exact absurd (hm.symm.trans h) (by decide)
        · exact h hsent
        · exact h hone
  · refine ⟨fun h17 h20 => ?_, fun h20 => ?_⟩
    · rw [State.enterBit_of_phase h17 h20, State.holdsPhase_index]; rfl
    · have hlast : (i.val == 29) = (i == 29) := index_beq_val i 29
      rw [State.enterBit_of_current h20, State.holdsCurrent_index, hlast]; rfl

/-- Settles O22: a halt read by the station's state, with the immediate stop of the entry to HOLD. -/
theorem haltReadSendsMembersToHold : Obligations.HaltReadSendsMembersToHold := by
  intro s i a b c d ht ho hi hn hs h0
  subst h0
  rw [← judge_four]
  intro r e words wasCold
  refine ⟨fun hr => ?_, fun hr hstate => ?_, fun hr hstate => ?_, fun hr hm => ?_⟩
  · rw [exec_bitTime_of_fourth d ht ho hi hn hs]
    exact congrArg _ (State.enterBit_of_no_halt hr)
  · refine ⟨s.gen.stop, ?_, rfl, rfl, rfl, rfl, rfl, rfl, rfl, rfl, rfl, rfl, s.gen.stop_deadTimer⟩
    rw [exec_bitTime_of_halt ht ho hi hn hs hr, State.readHalt_of_switching hstate, State.enterHold_eq]
    rfl
  · rw [exec_bitTime_of_halt ht ho hi hn hs hr, State.readHalt_of_hold hstate]
    rfl
  · rw [exec_bitTime_of_halt ht ho hi hn hs hr, State.readHalt_of_not_member hm]
    rfl
end

section
/-! ## The reset state -/

namespace Sys2Proof.Machine

/-! Each invariant at reset: every gate is off, the station is in SETUP without a part, and the units are empty (R57,
R77, R132, R149, R159, R185). -/

theorem GatesSafe.reset : GatesSafe State.reset := by unfold GatesSafe; decide

theorem ShareFits.reset : ShareFits State.reset := by unfold ShareFits; decide

theorem ConverterFits.reset : ConverterFits State.reset :=
  ⟨List.nodup_nil, List.not_mem_nil, fun _ => rfl, fun _ hc => nomatch hc⟩

theorem DemandFits.reset : DemandFits State.reset := by unfold DemandFits; decide

theorem HistoryFits.reset : HistoryFits State.reset := ⟨Nat.zero_le 8, fun _ ht => nomatch ht⟩

theorem RosterFits.reset : RosterFits State.reset := fun _ => rfl

end Sys2Proof.Machine

open Sys2Proof Sys2Proof.Machine

/-- Settles O54: one lemma an invariant; the station's place holds because RESET itself gives it from any state. -/
theorem resetStateFitsEveryInvariant : Obligations.ResetStateFitsEveryInvariant :=
  ⟨.reset, .resetBlocks State.reset, .reset, .reset, .reset, .reset, .reset⟩
end

section
/-! ## The command bytes of the reads -/

namespace Sys2Proof.Machine

/-- A port that takes a transaction begins it with the command byte (R174, section 11.2). -/
theorem State.commandByte_of_open {s : State} (ho : s.portOpen = true) (cmd : PortCommand) (r : ResultCode)
    (out : List Byte) : s.commandByte cmd r out = s.beginTransaction cmd r out :=
  if_pos ho

/-- IDENT shows the straps as sampled, in the order CODE0, CODE1, CODE2, AUTO, POL (R178, section 11.9; log 29). -/
theorem State.identBytes_of_straps {s : State} {x : Straps} (hx : s.straps = some x) :
    s.identBytes
      = [0x2E, 0x01, s.unitNumber.extractLsb' 8 8, s.unitNumber.extractLsb' 0 8,
          BitVec.ofNat 8
            (x.code0.toNat + 2 * x.code1.toNat + 4 * x.code2.toNat + 8 * x.auto.toNat + 16 * x.pol.toNat)] := by
  rw [State.identBytes, hx]
  rfl

end Sys2Proof.Machine

open Sys2Proof Sys2Proof.Machine

/-- Settles O43: the open port begins each read, and only IDENT has bytes that depend on the straps. -/
theorem readCommandBytesFixTheirData : Obligations.ReadCommandBytesFixTheirData := by
  intro s x hx hw
  have hopen : s.portOpen = true := State.portOpen_iff.mpr ⟨by simp [hx], hw⟩
  have hbegin : ∀ cmd out, done (s.commandByte cmd .accepted out) = .next (s.beginTransaction cmd .accepted out) :=
    fun cmd out => congrArg Host.Outcome.next (s.commandByte_of_open hopen cmd .accepted out)
  refine ⟨?_, hbegin .readConfig _, hbegin .readRoster _⟩
  rw [← State.identBytes_of_straps hx]
  exact hbegin .ident _
end

section
/-! ## The duplicate among members -/

namespace Sys2Proof.Machine

/-- The entry to FAULT as one update (R89, R138). -/
theorem State.enterFault_eq (s : State) (c : FaultCause) (n : Nat) :
    s.enterFault c n
      = { s with
          gen := s.stopOwing.gen
          meas := { s.meas.leaveActive with pace := Timer.stopped, freeFrames := 0 }
          ctl :=
            { s.ctl with
              state := .fault, decided := none, faultCause := some c, announce := n, haltWord := false
              shedRun := 0, warmCount := 0, holdCount := 0, cold := false, bias := true }
          port := s.port.raise c.flag } := by
  have hstop : s.stopOwing = (s.setGen s.stopOwing.gen).setMeas s.meas.leaveActive := rfl
  unfold State.enterFault
  generalize s.stopOwing.gen = g at hstop ⊢
  rw [hstop]
  rfl

/-- A member that declares a fault enters FAULT, with two words to announce unless it is a duplicate (R88, R89). -/
theorem State.declareFault_of_member {s : State} (hm : s.ctl.state.isMember = true) (c : FaultCause) :
    s.declareFault c = s.enterFault c (if c = .duplicate then 0 else 2) := by
  unfold State.declareFault
  split
  iterate 3 next hs => simp [hs, StationState.isMember] at hm
  next => rfl

/-- A settled bit damages nothing (R39). -/
theorem ExchangeUnit.judged_of_settled (e : ExchangeUnit) {l : List Bool} (h : judge l ≠ .unsettled) :
    e.judged l = { e with samples := l } := by
  simp [ExchangeUnit.judged, h]

/-- A member that sent 0 as its unit-number bit and reads a settled 1 declares DUPLICATE, in its own check frame
(R73). -/
theorem State.enterBit_of_duplicate {s : State} {r : ReadBit} (hd : s.seesDuplicate r = true) :
    s.enterBit s.checkFrame r = s.declareFault .duplicate := by
  have hlt := s.checkFrame_lt
  have hpos : s.checkFrame ≠ 0 := by simp [State.checkFrame]
  have heven : s.checkFrame % 2 ≠ 1 := by unfold State.checkFrame; omega
  rw [State.enterBit, if_neg hpos, if_pos hlt, if_neg heven, if_pos ⟨rfl, hd⟩]

/-- Four 1s in the own check frame of such a member are a settled 1, and nothing but the entry to FAULT follows (R38,
R73, R89). -/
theorem exec_bitTime_of_duplicate {s : State} {i : Fin 30} (ht : s.frame.takingPart = true)
    (ho : s.exch.wordOpen = true) (hi : s.frame.index = some i) (hn : s.frame.counter = s.sampleAt + 6)
    (hs : s.exch.samples = [true, true, true]) (hown : i.val = s.checkFrame) (hm : s.ctl.state.isMember = true)
    (hsent : s.roster.sentCheck = some ⟨false, true⟩) :
    exec (.bitTime true) s = .next ((s.setSamples [true, true, true, true]).enterFault .duplicate 0) := by
  have hone : judge [true, true, true, true] = .one := rfl
  have hjudged : s.setExch (s.exch.judged [true, true, true, true]) = s.setSamples [true, true, true, true] := by
    rw [ExchangeUnit.judged_of_settled _ (by simp [hone])]
    rfl
  have hdup : (s.setSamples [true, true, true, true]).seesDuplicate .one = true :=
    State.seesDuplicate_iff.mpr ⟨hm, hsent, rfl⟩
  have henter := State.declareFault_of_member (s := s.setSamples [true, true, true, true]) hm .duplicate
  rw [exec_bitTime_of_fourth true ht ho hi hn hs, hjudged, hone, hown]
  exact congrArg _ ((State.enterBit_of_duplicate hdup).trans henter)

end Sys2Proof.Machine

open Sys2Proof Sys2Proof.Machine

/-- Settles O23: the declaration of a member is the entry to FAULT, which turns both gates off. -/
theorem readOneAgainstASentZeroIsDuplicate : Obligations.ReadOneAgainstASentZeroIsDuplicate := by
  rintro s i a b c d ht ho hi hn hs hown hm hsent rfl rfl rfl rfl
  rw [exec_bitTime_of_duplicate ht ho hi hn hs hown hm hsent, State.enterFault_eq]
  exact ⟨_, _, rfl, rfl, rfl, rfl, rfl, rfl, rfl, rfl, rfl, rfl⟩
end

section
/-! ## The roster unit at a word close -/

namespace Sys2Proof.Machine

namespace RosterUnit

variable (r : RosterUnit) (map : CodeSet) (phase : BitVec 3) (depth code : Nat)

/-! The steps of R68, the outcome of each once. -/

/-- The agreement count after a map: it goes on only with the map of the close before (R60). -/
def agreeAfter : Nat := if map = r.candidate then min depth (r.agree + 1) else 1

theorem takeMap_eq :
    r.takeMap map depth = { r with observed := map, candidate := map, agree := r.agreeAfter map depth } := by
  unfold takeMap agreeAfter
  split
  next h => rw [h]
  next => rfl

theorem accepts_takeMap :
    (r.takeMap map depth).accepts depth = true ↔ r.agreeAfter map depth = depth ∧ map ≠ r.accepted := by
  simp [takeMap_eq, accepts]

/-- What every close ends with: N_active, the active-set test, and the sent check bit cleared (R66, R67, R74). -/
def Concluded : Prop :=
  r.nActive = min r.nReq (codeCount r.accepted)
    ∧ r.inSet = (hasCode r.accepted code && (match r.rank with | some k => decide (k < r.nActive) | none => false))
    ∧ r.sentCheck = none

theorem conclude_concluded : (r.conclude code).Concluded code := ⟨rfl, rfl, rfl⟩

theorem takeDamaged_concluded : (r.takeDamaged code).Concluded code := r.advance.conclude_concluded code

variable {r map depth}

/-- A map that completes its agreement and differs from the accepted roster is accepted (R61, R63, R64, R65). -/
theorem takeWord_of_change (h : r.agreeAfter map depth = depth ∧ map ≠ r.accepted) :
    r.takeWord map phase depth code
      = ({ r with
            observed := map, candidate := map, agree := r.agreeAfter map depth, accepted := map, checkIndex := 0
            rank := rankIn map code, nReq := phase.toNat + 1 }.conclude code, true) := by
  refine (if_pos ((r.accepts_takeMap map depth).mpr h)).trans ?_
  rw [takeMap_eq]
  rfl

/-- Any other map leaves the accepted roster and the rank, and the check index advances (R61, R63). -/
theorem takeWord_of_no_change (h : ¬(r.agreeAfter map depth = depth ∧ map ≠ r.accepted)) :
    r.takeWord map phase depth code
      = ({ r with
            observed := map, candidate := map, agree := r.agreeAfter map depth, checkIndex := r.checkIndex + 1
            nReq := phase.toNat + 1 }.conclude code, false) := by
  refine (if_neg (mt (r.accepts_takeMap map depth).mp h)).trans ?_
  rw [takeMap_eq]
  rfl

variable (r map depth)

/-- With or without a roster change an undamaged close takes the map and the phase result (R59, R60, R65). -/
theorem takeWord_census :
    (r.takeWord map phase depth code).1.observed = map ∧ (r.takeWord map phase depth code).1.candidate = map
      ∧ (r.takeWord map phase depth code).1.agree = r.agreeAfter map depth
      ∧ (r.takeWord map phase depth code).1.nReq = phase.toNat + 1 := by
  by_cases h : r.agreeAfter map depth = depth ∧ map ≠ r.accepted
  · rw [takeWord_of_change phase code h]; exact ⟨rfl, rfl, rfl, rfl⟩
  · rw [takeWord_of_no_change phase code h]; exact ⟨rfl, rfl, rfl, rfl⟩

theorem takeWord_concluded : (r.takeWord map phase depth code).1.Concluded code := by
  by_cases h : r.agreeAfter map depth = depth ∧ map ≠ r.accepted
  · rw [takeWord_of_change phase code h]; exact conclude_concluded _ code
  · rw [takeWord_of_no_change phase code h]; exact conclude_concluded _ code

end RosterUnit

theorem exec_wordClose_of_due {s : State} (ht : s.frame.takingPart = true) (ho : s.exch.wordOpen = true)
    (hd : s.exch.closeDue = true) : exec .wordClose s = .next s.closeWord :=
  whenDue_of_true (by simp [State.closeCan, ht, ho, hd]) _ _

namespace State

variable (s : State)

/-- The close as the state decision finds it: the word cleared, the census and the request (R47, R68, R96). -/
def censusClose : State :=
  ((s.closeExchange.raiseIf s.exch.damaged .damagedWord).closeRoster s.exch.record).closeRequest

/-- What the roster unit makes of an undamaged word, and whether it is a roster change (R68). -/
def takenCensus : RosterUnit × Bool :=
  s.roster.takeWord (presenceMap s.exch.presence) (fieldResult 3 s.exch.phase.bits) s.port.config.rosterDepth.toNat
    s.code

/-! What the close keeps of its state decision. -/

theorem closeWord_of_census :
    s.closeWord
      = ((((s.censusClose.closeState s.exch.damaged).closeTrim s.exch.record).closeShare
          s.exch.record).stepTally).closeHistory s.exch.record := rfl

theorem closeWord_roster : s.closeWord.roster = (s.censusClose.closeState s.exch.damaged).roster := by
  simp [closeWord_of_census]

theorem closeWord_ctl : s.closeWord.ctl = (s.censusClose.closeState s.exch.damaged).ctl := by
  simp [closeWord_of_census]

theorem closeWord_gen : s.closeWord.gen = (s.censusClose.closeState s.exch.damaged).gen := by
  simp [closeWord_of_census]

/-- The rest of the close clears no flag (R180). -/
theorem closeWord_flagsStand : (s.censusClose.closeState s.exch.damaged).FlagsStand s.closeWord := by
  have hshare : ∀ (u : State) r, u.FlagsStand (u.closeShare r) := fun _ _ => .of_flags rfl
  exact (((FlagsStand.closeTrim _ _).trans (hshare _ _)).trans (.stepTally _)).trans
    (.of_flags (closeHistory_flags _ _))

@[simp] theorem censusClose_code : s.censusClose.code = s.code := by simp [censusClose, code]

@[simp] theorem censusClose_ctl :
    s.censusClose.ctl
      = { s.ctl with request := nextRequest s.port.config s.dmd.valid s.dmd.lastGood.toNat s.ctl.request } := by
  simp [censusClose, closeRequest]

variable {s}

theorem censusClose_of_undamaged (hd : s.exch.damaged = false) :
    s.censusClose
      = ((s.closeExchange.setRoster s.takenCensus.1).raiseIf s.takenCensus.2 .rosterChange).closeRequest := by
  have hmap : s.exch.record.observedMap = some (presenceMap s.exch.presence) := by simp [ExchangeUnit.record, hd]
  have hphase : s.exch.record.phaseResult = some (fieldResult 3 s.exch.phase.bits) := by simp [ExchangeUnit.record, hd]
  simp only [censusClose, hd, closeRoster, hmap, hphase]
  rfl

theorem censusClose_roster_of_undamaged (hd : s.exch.damaged = false) : s.censusClose.roster = s.takenCensus.1 := by
  simp [censusClose_of_undamaged hd]

theorem censusClose_roster_of_damaged (hd : s.exch.damaged = true) :
    s.censusClose.roster = s.roster.takeDamaged s.code := by
  have hmap : s.exch.record.observedMap = none := by simp [ExchangeUnit.record, hd]
  simp [censusClose, closeRoster_damaged _ _ hmap, code]

theorem censusClose_concluded : s.censusClose.roster.Concluded s.code := by
  cases hd : s.exch.damaged with
  | false => rw [censusClose_roster_of_undamaged hd]; exact RosterUnit.takeWord_concluded ..
  | true => rw [censusClose_roster_of_damaged hd]; exact RosterUnit.takeDamaged_concluded ..

/-- A roster change sets its flag (R61). -/
theorem censusClose_rosterChange (hd : s.exch.damaged = false) (hc : s.takenCensus.2 = true) :
    s.censusClose.flagSet .rosterChange = true := by
  rw [censusClose_of_undamaged hd, hc]
  exact (raise_flagSet _ .rosterChange .rosterChange).trans (by simp)

/-- The state decision leaves the roster unit alone but in an ASIDE with no cause (R58, R75, R87). -/
theorem closeState_roster (h : s.ctl.state ≠ .aside ∨ s.ctl.causes.isEmpty = false) (b : Bool) :
    (s.closeState b).roster = s.roster := by
  unfold closeState
  split
  iterate 6 · simp
  next hs =>
    have hcause : s.ctl.causes.isEmpty = false := h.resolve_left (· hs)
    simp [closeAside, hcause]
  iterate 3 · simp

end State

end Sys2Proof.Machine

open Sys2Proof Sys2Proof.Machine

/-- Settles O25: the state decision passes on what the roster unit makes of the word, a change, no change or a damaged
word. -/
theorem wordCloseFiltersTheCensus : Obligations.WordCloseFiltersTheCensus := by
  intro s ht ho hd hstate
  have hroster : s.closeWord.roster = s.censusClose.roster := by
    rw [State.closeWord_roster]
    exact State.closeState_roster (by simpa using hstate) _
  obtain ⟨hactive, hset, hsent⟩ := s.censusClose_concluded
  dsimp only
  refine ⟨s.closeWord, exec_wordClose_of_due ht ho hd, fun hu => ?_, fun hdam => ?_, ?_⟩ <;> rw [hroster]
  · obtain ⟨hobs, hcand, hagree, hreq⟩ := s.roster.takeWord_census (presenceMap s.exch.presence)
      (fieldResult 3 s.exch.phase.bits) s.port.config.rosterDepth.toNat s.code
    rw [State.censusClose_roster_of_undamaged hu]
    refine ⟨hobs, hcand, hagree, hreq, fun hchange => ?_, fun hkeep => ?_⟩
    · have htaken := RosterUnit.takeWord_of_change (fieldResult 3 s.exch.phase.bits) s.code hchange
      have hflag := State.censusClose_rosterChange hu (congrArg Prod.snd htaken)
      rw [State.takenCensus, htaken]
      exact ⟨rfl, rfl, rfl, s.closeWord_flagsStand _ (State.FlagsStand.closeState _ _ _ hflag)⟩
    · rw [State.takenCensus, RosterUnit.takeWord_of_no_change _ _ hkeep]
      exact ⟨rfl, rfl, rfl⟩
  · rw [State.censusClose_roster_of_damaged hdam]
    exact ⟨rfl, rfl, rfl, rfl, rfl, rfl, rfl⟩
  · exact ⟨hactive, hset, hsent⟩
end

section
/-! ## The slot test and the causes at a word close -/

namespace Sys2Proof.Machine

namespace State

variable {s : State}

theorem closeState_of_check (hs : s.ctl.state = .check) (b : Bool) : s.closeState b = s.closeCheck b := by
  simp [closeState, hs]

theorem closeState_of_aside (hs : s.ctl.state = .aside) (b : Bool) : s.closeState b = s.closeAside := by
  simp [closeState, hs]

theorem closeState_of_fault (hs : s.ctl.state = .fault) (b : Bool) : s.closeState b = s.setDecided none := by
  simp [closeState, hs]

/-- The own slot present is a duplicate, and its entry to FAULT is at the close (R71, R83, R89). -/
theorem closeCheck_of_present (hs : s.ctl.state = .check) (hp : hasCode s.roster.observed s.code = true) :
    s.closeCheck false = s.enterFault .duplicate 0 := by
  simp [closeCheck, hp, declareFault_of_check hs]

theorem closeCheck_of_absent (hp : hasCode s.roster.observed s.code = false) :
    s.closeCheck false = s.setCtl { s.ctl with decided := some .shed, shedRun := 0 } := by
  simp [closeCheck, hp]

theorem closeAside_of_no_cause (hc : s.ctl.causes.isEmpty = true) :
    s.closeAside = (s.setRoster RosterUnit.emptied).setDecided (some .check) :=
  if_pos hc

theorem closeAside_of_cause (hc : s.ctl.causes.isEmpty = false) : s.closeAside = s.setDecided none :=
  if_neg (by simp [hc])

theorem enterFault_flagSet (s : State) (c : FaultCause) (n : Nat) : (s.enterFault c n).flagSet c.flag = true := by
  have hport : (s.enterFault c n).flagSet c.flag = (s.raise c.flag).flagSet c.flag := by
    simp only [flagSet, enterFault_port]
    rfl
  simp [hport]

end State

end Sys2Proof.Machine

open Sys2Proof Sys2Proof.Machine

/-- Settles O26: the state decision on the census just taken, whose observed map is that of the word. -/
theorem wordCloseTestsTheSlotAndTheCauses : Obligations.WordCloseTestsTheSlotAndTheCauses := by
  intro s ht ho hd
  have hslot (hu : s.exch.damaged = false) :
      hasCode s.censusClose.roster.observed s.censusClose.code = hasCode (presenceMap s.exch.presence) s.code := by
    obtain ⟨hobs, -⟩ := s.roster.takeWord_census (presenceMap s.exch.presence)
      (fieldResult 3 s.exch.phase.bits) s.port.config.rosterDepth.toNat s.code
    rw [State.censusClose_code, State.censusClose_roster_of_undamaged hu, State.takenCensus, hobs]
  have hstate {x : StationState} (hs : s.ctl.state = x) : s.censusClose.ctl.state = x := by simp [hs]
  dsimp only
  refine ⟨s.closeWord, exec_wordClose_of_due ht ho hd, fun hs hdam => ?_, fun hs hu hp => ?_, fun hs hu hp => ?_,
    fun hs hc => ?_, fun hs hc => ?_, fun hs => ?_⟩
  · rw [State.closeWord_ctl, State.closeState_of_check (hstate hs), hdam]
    exact ⟨hstate hs, rfl⟩
  · have hfault : s.censusClose.closeState s.exch.damaged = s.censusClose.enterFault .duplicate 0 := by
      rw [State.closeState_of_check (hstate hs), hu,
        State.closeCheck_of_present (hstate hs) ((hslot hu).trans hp)]
    have hflag := s.closeWord_flagsStand .duplicate (by rw [hfault]; exact State.enterFault_flagSet ..)
    rw [State.closeWord_ctl, State.closeWord_gen, State.closeWord_frame, hfault]
    exact ⟨rfl, rfl, rfl, rfl, hflag, rfl, rfl, ht⟩
  · rw [State.closeWord_ctl, State.closeState_of_check (hstate hs), hu,
      State.closeCheck_of_absent ((hslot hu).trans hp)]
    exact ⟨hstate hs, rfl, rfl⟩
  · rw [State.closeWord_ctl, State.closeWord_roster, State.closeState_of_aside (hstate hs),
      State.closeAside_of_no_cause (by simpa using hc)]
    exact ⟨hstate hs, rfl, rfl⟩
  · rw [State.closeWord_ctl, State.closeState_of_aside (hstate hs), State.closeAside_of_cause (by simpa using hc)]
    exact ⟨hstate hs, rfl⟩
  · rw [State.closeWord_ctl, State.closeState_of_fault (hstate hs)]
    simp [hs, State.setDecided]
end

section
/-! ## The release of reset, and START -/

namespace Sys2Proof.Machine

/-- While RESET_N is low the straps have no value, and its release gives them one (R81, R173). -/
theorem exec_resetRelease_of_held {s : State} (h : s.straps = none) (x : Straps) (low : Bool) :
    exec (.resetRelease x low) s
      = .next (if x.auto then (s.sampleStraps x low).startStation else s.sampleStraps x low) :=
  whenDue_of_true (by simp [h]) _ _

theorem State.startStation_of_setup {s : State} (hs : s.ctl.state = .setup) :
    s.startStation
      = { s with ctl := { s.ctl with state := .listen }, meas := { s.meas with pace := Timer.started } } :=
  if_pos hs

/-- The port's answer to a command byte (R174, section 11.2). -/
theorem State.commandByte_of_straps {s : State} (hst : s.straps ≠ none) (hw : s.port.awaitRise = false)
    (cmd : PortCommand) (r : ResultCode) (out : List Byte) : s.commandByte cmd r out = s.beginTransaction cmd r out :=
  State.commandByte_of_open (State.portOpen_iff.mpr ⟨hst, hw⟩) cmd r out

/-- An effect at the result byte acts on the station whose port has shifted that byte out (R174, R175). -/
theorem State.laterByte_of_resultByte {s : State} {t : Transaction} {cmd : PortCommand} (hst : s.straps ≠ none)
    (hw : s.port.awaitRise = false) (ht : s.port.txn = some t) (hc : t.cmd = cmd) (hr : t.result = .accepted)
    (hb : t.bytes = 1) (effect : Transaction → State → State) :
    s.laterByte cmd (atByte 2 effect)
      = effect t (s.setPort { s.port with sdo := some 0x80, txn := some { t with bytes := 2 } }) := by
  rw [State.laterByte_of_txn (State.portOpen_iff.mpr ⟨hst, hw⟩) ht hc, State.advanceByte_of_accepted hr hb]
  exact if_pos ⟨hr, by omega⟩

/-! The START checks (R179). -/

/-- The first check of a list to fail is the first one that is false. -/
theorem firstFailing_eq (l : List Bool) (n : Nat) :
    firstFailing n l = if l.all id then none else some (l.findIdx (fun b => !b) + n) := by
  induction l generalizing n with
  | nil => rfl
  | cons b rest ih =>
    cases b with
    | false => simp [firstFailing, List.findIdx_cons]
    | true =>
      rw [firstFailing, ih]
      simp [List.findIdx_cons, Nat.add_right_comm, Nat.add_assoc]

/-- Seven thresholds do not decrease when no two neighbours do. -/
theorem nonDecreasing_seven (a b c d e f g : Nat) :
    nonDecreasing [a, b, c, d, e, f, g]
      = (decide (a ≤ b) && decide (b ≤ c) && decide (c ≤ d) && decide (d ≤ e) && decide (e ≤ f)
          && decide (f ≤ g)) := by
  simp [nonDecreasing, Bool.and_assoc]

/-- In SETUP with AUTO low the START checks decide, and elsewhere the state refuses (R80, R176, R179). -/
theorem State.startResult_eq {s : State} {x : Straps} (hx : s.straps = some x) :
    s.startResult
      = if s.ctl.state = .setup ∧ x.auto = false then
          (if (startChecks s.port.config).all id then .accepted
           else .invalidConfig ((startChecks s.port.config).findIdx (fun b => !b) + 1))
        else .refusedState := by
  have hhost : s.setupByHost = true ↔ s.ctl.state = .setup ∧ x.auto = false := by
    simp [State.setupByHost, State.autoHigh, hx]
  simp only [State.startResult, hhost, firstStartFailure, firstFailing_eq]
  split
  · split <;> simp_all
  · rfl

end Sys2Proof.Machine

open Sys2Proof Sys2Proof.Machine

/-- Settles O7: the straps are sampled, and with AUTO high the sampled station starts. -/
theorem resetReleaseSamplesTheStraps : Obligations.ResetReleaseSamplesTheStraps := by
  intro x low s hn hs
  refine ⟨fun hx => ?_, fun hx => ?_⟩ <;> rw [exec_resetRelease_of_held hn, hx]
  · rfl
  · rw [if_pos rfl, State.startStation_of_setup (by exact hs)]; rfl

/-- Settles O47: the command byte answers by the first of the eight checks to fail, and the result byte of an accepted
START enters LISTEN. -/
theorem startTestsTheRecordAndEntersListen : Obligations.StartTestsTheRecordAndEntersListen := by
  intro s x hx hw
  have hst : s.straps ≠ none := by simp [hx]
  refine ⟨?_, fun t sdi ht hc hr hb hs => ?_⟩
  · have hbegun : exec (.start .command) s = .next (s.beginTransaction .start s.startResult []) :=
      congrArg Host.Outcome.next (State.commandByte_of_straps hst hw _ _ _)
    rw [hbegun, State.startResult_eq hx]
    dsimp only
    rw [← nonDecreasing_seven]
    rfl
  · refine (congrArg Host.Outcome.next (State.laterByte_of_resultByte hst hw ht hc hr hb takeStart)).trans ?_
    rw [takeStart, State.startStation_of_setup (by exact hs)]
    rfl
end

section
/-! ## An aside cause by the station's state: ASIDE and RETURN -/

namespace Sys2Proof.Machine

/-- A station outside the group only notes the cause (R84). -/
theorem State.addCause_of_outside {s : State} (h : s.ctl.state = .listen ∨ s.ctl.state = .fault) (c : AsideCause) :
    s.addCause c = s.setCtl { s.ctl with causes := s.ctl.causes.add c } := by
  rcases h with h | h <;> simp [State.addCause, h, StationState.leavesForAside, StationState.isMember]

/-- A station in ASIDE loses a decided state (R87). -/
theorem State.addCause_of_aside {s : State} (h : s.ctl.state = .aside) (c : AsideCause) :
    s.addCause c = s.setCtl { s.ctl with causes := s.ctl.causes.add c, decided := none } := by
  simp only [State.addCause, h, StationState.leavesForAside, StationState.isMember]
  rfl

/-- CHECK and the members enter ASIDE at once (R85, R104, R124). -/
theorem State.addCause_of_group {s : State} (h : s.ctl.state = .check ∨ s.ctl.state.isMember = true)
    (c : AsideCause) :
    s.addCause c
      = { s with
          gen := s.gen.stop
          meas := s.meas.leaveActive
          ctl :=
            { s.ctl with
              causes := s.ctl.causes.add c, state := .aside, decided := none, shedRun := 0, warmCount := 0
              holdCount := 0, cold := false, bias := true } } :=
  if_pos (by simpa [StationState.leavesForAside] using h)

end Sys2Proof.Machine

open Sys2Proof Sys2Proof.Machine

/-- Settles O51: both command bytes ask for a started station, RETURN removes the cause, and ASIDE adds it by the
station's state. -/
theorem asideAndReturnMoveTheCommandedFlag : Obligations.AsideAndReturnMoveTheCommandedFlag := by
  intro s hst hw
  refine ⟨?_, fun t sdi ht hr hb => ?_⟩
  · have haccepted : acceptedIf s.started = if s.ctl.state = .setup then .refusedState else .accepted := by
      by_cases hs : s.ctl.state = .setup <;> simp [acceptedIf, State.started, hs]
    dsimp only
    rw [← haccepted]
    exact ⟨congrArg Host.Outcome.next (State.commandByte_of_straps hst hw ..),
      congrArg Host.Outcome.next (State.commandByte_of_straps hst hw ..)⟩
  · intro p added
    have hret (hc : t.cmd = .ret) : exec (.ret (.later sdi)) s = .next (takeReturn t (s.setPort p)) :=
      congrArg Host.Outcome.next (State.laterByte_of_resultByte hst hw ht hc hr hb takeReturn)
    have haside (hc : t.cmd = .aside) : exec (.aside (.later sdi)) s = .next (takeAside t (s.setPort p)) :=
      congrArg Host.Outcome.next (State.laterByte_of_resultByte hst hw ht hc hr hb takeAside)
    have hset (hf : s.ctl.causes.commanded = true) : takeAside t (s.setPort p) = s.setPort p := if_pos hf
    have hadd (hf : s.ctl.causes.commanded = false) :
        takeAside t (s.setPort p) = (s.setPort p).addCause .commanded := if_neg (by simp [hf])
    refine ⟨fun hc => ?_, fun hc hf => ?_, fun hc hf hs => ?_, fun hc hf hs => ?_, fun hc hf hs => ?_⟩
    · rw [hret hc]; rfl
    · rw [haside hc, hset hf]; rfl
    · rw [haside hc, hadd hf, State.addCause_of_outside (by exact hs)]; rfl
    · rw [haside hc, hadd hf, State.addCause_of_aside (by exact hs)]; rfl
    · rw [haside hc, hadd hf, State.addCause_of_group (by exact hs)]
      exact ⟨_, _, rfl, rfl, rfl, rfl, rfl, rfl, rfl, rfl, rfl⟩
end

section
/-! ## A voltage result -/

namespace Sys2Proof.Machine

/-- The next entry of the queue starts on an idle converter (R140). -/
theorem State.startConversion_of_idle {s : State} (h : s.meas.conv = none) :
    s.startConversion
      = s.setMeas { s.meas with conv := s.meas.queue.head?.map (fun ch => ⟨ch, 0, 0, false⟩) } := by
  rw [State.startConversion, MeasurementUnit.startNext_eq, h]
  rfl

/-- A VSNS result is kept, its entry leaves the queue and the converter is idle (R140, R148). -/
def State.keepVoltage (s : State) (code : Reading) : State :=
  s.setMeas { s.meas with conv := none, queue := s.meas.queue.drop 1, lastVsns := code }

/-! It is compared with the two thresholds (R171). -/

theorem State.takeResult_of_low_voltage {s : State} {c : Conversion} {code : Reading} (hc : c.channel = .vsns)
    (hl : code.toNat < s.port.config.vinMin.toNat) :
    s.takeResult c code = ((s.keepVoltage code).raise .undervolt).addCause .undervolt := by
  rw [State.takeResult, hc]
  exact if_pos hl

theorem State.takeResult_of_good_voltage {s : State} {c : Conversion} {code : Reading} (hc : c.channel = .vsns)
    (hl : ¬code.toNat < s.port.config.vinMin.toNat) (hg : s.port.config.vinOk.toNat ≤ code.toNat) :
    s.takeResult c code = (s.keepVoltage code).removeCause .undervolt := by
  rw [State.takeResult, hc]
  exact (if_neg hl).trans (if_pos hg)

theorem State.takeResult_of_fair_voltage {s : State} {c : Conversion} {code : Reading} (hc : c.channel = .vsns)
    (hl : ¬code.toNat < s.port.config.vinMin.toNat) (hg : ¬s.port.config.vinOk.toNat ≤ code.toNat) :
    s.takeResult c code = s.keepVoltage code := by
  rw [State.takeResult, hc]
  exact (if_neg hl).trans (if_neg hg)

end Sys2Proof.Machine

open Sys2Proof Sys2Proof.Machine

/-- Settles O39: by the two thresholds and, below VIN_MIN, by the station's state. -/
theorem voltageResultIsCompared : Obligations.VoltageResultIsCompared := by
  intro s c code hs hc ht hch
  dsimp only
  rw [exec_conversionComplete_of_due hs hc ht]
  refine ⟨fun hl hg => ?_, fun hl hg => ?_, fun hl hst => ?_, fun hl hst => ?_, fun hl hst => ?_⟩
  · rw [State.takeResult_of_fair_voltage hch hl hg, State.startConversion_of_idle rfl]
    rfl
  · rw [State.takeResult_of_good_voltage hch hl hg, State.startConversion_of_idle rfl]
    rfl
  · rw [State.takeResult_of_low_voltage hch hl, State.addCause_of_outside (by exact hst),
      State.startConversion_of_idle rfl]
    rfl
  · rw [State.takeResult_of_low_voltage hch hl, State.addCause_of_aside (by exact hst),
      State.startConversion_of_idle rfl]
    rfl
  · rw [State.takeResult_of_low_voltage hch hl, State.addCause_of_group (by exact hst),
      State.startConversion_of_idle rfl]
    exact ⟨_, rfl, rfl, rfl, rfl, rfl, rfl⟩
end

section
/-! ## A temperature result -/

namespace Sys2Proof.Machine

/-- A TSNS result is kept, its entry leaves the queue and the converter is idle (R140, R148). -/
def State.keepTemperature (s : State) (code : Reading) : State :=
  s.setMeas { s.meas with conv := none, queue := s.meas.queue.drop 1, lastTsns := code }

theorem State.faultEnded_iff {s : State} :
    s.faultEnded = true ↔ s.ctl.state = .fault ∧ s.frame.takingPart = false := by
  simp [State.faultEnded]

/-! It is compared with the two thresholds (R93, R170). -/

theorem State.takeResult_of_trip {s : State} {c : Conversion} {code : Reading} (hc : c.channel = .tsns)
    (ht : s.port.config.tempTrip.toNat ≤ code.toNat) :
    s.takeResult c code = (s.keepTemperature code).declareFault .overtemp := by
  rw [State.takeResult, hc]
  exact if_pos ht

theorem State.takeResult_of_recovery {s : State} {c : Conversion} {code : Reading} (hc : c.channel = .tsns)
    (ht : ¬s.port.config.tempTrip.toNat ≤ code.toNat)
    (hr : code.toNat < s.port.config.tempClear.toNat ∧ s.ctl.faultCause = some .overtemp ∧ s.faultEnded = true) :
    s.takeResult c code = (s.keepTemperature code).rejoin false := by
  rw [State.takeResult, hc]
  exact (if_neg ht).trans (if_pos hr)

theorem State.takeResult_of_fair_temperature {s : State} {c : Conversion} {code : Reading} (hc : c.channel = .tsns)
    (ht : ¬s.port.config.tempTrip.toNat ≤ code.toNat)
    (hr : ¬(code.toNat < s.port.config.tempClear.toNat ∧ s.ctl.faultCause = some .overtemp ∧ s.faultEnded = true)) :
    s.takeResult c code = s.keepTemperature code := by
  rw [State.takeResult, hc]
  exact (if_neg ht).trans (if_neg hr)

/-- A station in FAULT takes a second cause as a flag alone (R92). -/
theorem State.declareFault_of_fault {s : State} (h : s.ctl.state = .fault) (c : FaultCause) :
    s.declareFault c = s.raise c.flag := by
  simp [State.declareFault, h]

/-- OVERTEMP sends every started station to FAULT, one in LISTEN with nothing to announce, and no part in the barrier
changes (R88, R89). -/
theorem State.declareFault_overtemp {s : State} (hs : s.started = true) (hf : s.ctl.state ≠ .fault) :
    ∃ f : FrameUnit, f.takingPart = s.frame.takingPart
      ∧ s.declareFault .overtemp
        = (s.setFrame f).enterFault .overtemp (if s.ctl.state = .listen then 0 else 2) := by
  have hset : s.ctl.state ≠ .setup := by simpa [State.started] using hs
  by_cases hl : s.ctl.state = .listen
  · exact ⟨{ s.frame.leaveListen with counter := 0 }, rfl, by simp [State.declareFault, hl]⟩
  · refine ⟨s.frame, rfl, ?_⟩
    rw [if_neg hl, State.declareFault]
    split
    next h => exact absurd h hset
    next h => exact absurd h hl
    next h => exact absurd h hf
    next => rfl

end Sys2Proof.Machine

open Sys2Proof Sys2Proof.Machine

/-- Settles O38: by the two thresholds, a trip by the station's state and a cool result by whether the fault is over. -/
theorem temperatureResultIsCompared : Obligations.TemperatureResultIsCompared := by
  intro s c code hs hc ht hch
  dsimp only
  rw [exec_conversionComplete_of_due hs hc ht]
  have hrecovers : (code.toNat < s.port.config.tempClear.toNat ∧ s.ctl.state = .fault
      ∧ s.ctl.faultCause = some .overtemp ∧ s.frame.takingPart = false)
      ↔ (code.toNat < s.port.config.tempClear.toNat ∧ s.ctl.faultCause = some .overtemp ∧ s.faultEnded = true) := by
    rw [State.faultEnded_iff]
    tauto
  rw [hrecovers]
  refine ⟨fun ht hr => ?_, fun ht hf => ?_, fun ht hf => ?_, fun ht hr => ?_⟩
  · rw [State.takeResult_of_fair_temperature hch ht hr, State.startConversion_of_idle rfl]
    rfl
  · rw [State.takeResult_of_trip hch ht, State.declareFault_of_fault (by exact hf), State.startConversion_of_idle rfl]
    rfl
  · obtain ⟨f, hpart, hfault⟩ := State.declareFault_overtemp (s := s.keepTemperature code) hs hf
    rw [State.takeResult_of_trip hch ht, hfault, State.enterFault_eq, State.startConversion_of_idle rfl]
    exact ⟨_, rfl, rfl, rfl, rfl, rfl, hpart, rfl, rfl, rfl, rfl⟩
  · rw [State.takeResult_of_recovery hch ht hr, State.startConversion_of_idle rfl]
    exact ⟨_, rfl, rfl, rfl, rfl, rfl, rfl, rfl, rfl, rfl, rfl, rfl, rfl, rfl, rfl⟩
end

section
/-! ## A bad period, and the demand lost -/

namespace Sys2Proof.Machine

/-- The demand is lost with the monitor left as `d`: the flag is set and the cause added (R156). -/
def State.loseDemand (s : State) (d : DemandMonitor) : State :=
  ((s.setDmd d).raise .demandLost).addCause .demandLost

theorem ite_setDmd {c : Prop} [Decidable c] {a b a' b' : State} {d : DemandMonitor} (ha : a' = a.setDmd d)
    (hb : b' = b.setDmd d) : (if c then a' else b') = (if c then a else b).setDmd d := by
  split
  · exact ha
  · exact hb

/-- The entry to ASIDE reads nothing of the monitor. -/
theorem State.addCause_setDmd (s : State) (c : AsideCause) (d : DemandMonitor) :
    (s.setDmd d).addCause c = (s.addCause c).setDmd d :=
  ite_setDmd rfl (ite_setDmd rfl rfl)

theorem State.loseDemand_setDmd (s : State) (d e : DemandMonitor) :
    (s.loseDemand d).setDmd e = s.loseDemand e := by
  rw [State.loseDemand, ← State.addCause_setDmd]
  rfl

theorem State.loseDemand_dmd (s : State) (d : DemandMonitor) : (s.loseDemand d).dmd = d := by
  simp [State.loseDemand]

/-- The first bad period in a row, and any in a LOST monitor, is only counted (R155). -/
theorem State.badPeriod_of_first {s : State} (h : s.dmd.valid = false ∨ s.dmd.badRun = 0) :
    s.badPeriod = s.setDmd s.dmd.countBad := by
  rcases h with h | h <;> simp [State.badPeriod, State.passLost, DemandMonitor.countBad, h]

/-- The second bad period in a row loses the demand (R156). -/
theorem State.badPeriod_of_second {s : State} (hv : s.dmd.valid = true) (hb : 0 < s.dmd.badRun) :
    s.badPeriod = s.loseDemand { s.dmd.countBad with valid := false } := by
  have hrun : min 2 (s.dmd.badRun + 1) = 2 := by omega
  simp only [State.badPeriod, State.passLost, DemandMonitor.countBad, State.setDmd_dmd, hv, hrun]
  rfl

theorem State.inWindow_iff {s : State} {period : Nat} :
    s.inWindow period = true ↔ s.port.config.dmdMin.toNat ≤ period ∧ period ≤ s.port.config.dmdMax.toNat := by
  simp [State.inWindow, within]

/-! The two rows that make a bad period (R153, R154). -/

theorem exec_dmdActiveEdge_of_misfit {s : State} (hs : s.started = true) (hl : s.dmd.filter.level = some false)
    (hc : s.dmd.cond = .opened)
    (hn : s.dmd.capture < s.port.config.dmdMin.toNat ∨ s.port.config.dmdMax.toNat < s.dmd.capture) :
    exec .dmdActiveEdge s
      = .next
        ((s.setDmd { s.dmd with period := s.dmd.capture }).badPeriod.setDmd
          (s.setDmd { s.dmd with period := s.dmd.capture }).badPeriod.dmd.openPeriod) := by
  have hout : ¬(s.setDmd { s.dmd with period := s.dmd.capture }).inWindow s.dmd.capture = true := by
    intro hin
    obtain ⟨hlow, hhigh⟩ : s.port.config.dmdMin.toNat ≤ s.dmd.capture ∧ s.dmd.capture ≤ s.port.config.dmdMax.toNat :=
      State.inWindow_iff.mp hin
    omega
  refine (whenDue_of_true (by simp [State.activeCan, hs, hl]) _ _).trans ?_
  rw [if_pos hc, State.judgePeriod, if_neg hout]

theorem exec_dmdTimeout_of_due {s : State} (hs : s.started = true)
    (hn : s.dmd.capture = (s.dmd.timeouts + 1) * s.port.config.dmdMax.toNat + 1) :
    exec .dmdTimeout s
      = .next (s.setDmd { s.dmd with timeouts := s.dmd.timeouts + 1, cond := .judged }).badPeriod := by
  rw [exec_dmdTimeout, if_pos (by simp [State.timeoutDue, hs, hn])]

end Sys2Proof.Machine

open Sys2Proof Sys2Proof.Machine

/-- Settles O42: an edge out of the window and a timeout make the same bad period, which is counted or loses the demand,
and the lost demand acts by the station's state. -/
theorem badPeriodsLoseTheDemand : Obligations.BadPeriodsLoseTheDemand := by
  intro s c hs n bad d hrow added lost
  have hcounted (hv : s.dmd.valid = false ∨ s.dmd.badRun = 0) : exec c s = .next (s.setDmd d) := by
    obtain ⟨rfl, hl, hc, hn, rfl⟩ | ⟨rfl, hn, rfl⟩ := hrow
    · rw [exec_dmdActiveEdge_of_misfit hs hl hc hn, State.badPeriod_of_first (by exact hv)]; rfl
    · rw [exec_dmdTimeout_of_due hs hn, State.badPeriod_of_first (by exact hv)]; rfl
  have hlost (hv : s.dmd.valid = true) (hb : 0 < s.dmd.badRun) : exec c s = .next (s.loseDemand lost) := by
    obtain ⟨rfl, hl, hc, hn, rfl⟩ | ⟨rfl, hn, rfl⟩ := hrow
    · rw [exec_dmdActiveEdge_of_misfit hs hl hc hn, State.badPeriod_of_second (by exact hv) (by exact hb),
        State.loseDemand_setDmd, State.loseDemand_dmd]
      rfl
    · rw [exec_dmdTimeout_of_due hs hn, State.badPeriod_of_second (by exact hv) (by exact hb)]; rfl
  refine ⟨hcounted, fun hv hb => ?_⟩
  rw [hlost hv hb, State.loseDemand]
  refine ⟨fun hst => ?_, fun hst => ?_, fun hst => ?_⟩
  · rw [State.addCause_of_outside (by exact hst)]; rfl
  · rw [State.addCause_of_aside (by exact hst)]; rfl
  · rw [State.addCause_of_group (by exact hst)]
    exact ⟨_, _, rfl, rfl, rfl, rfl, rfl, rfl, rfl, rfl, rfl⟩
end

section
/-! ## The state decision of the members at a word close -/

namespace Sys2Proof.Machine

namespace State

variable {s : State}

theorem closeState_of_active (hs : s.ctl.state = .active) (b : Bool) :
    s.closeState b = s.setDecided (if s.roster.inSet then none else some .shed) := by
  simp [closeState, hs]

theorem closeState_of_shed (hs : s.ctl.state = .shed) (b : Bool) : s.closeState b = s.closeShed := by
  simp [closeState, hs]

theorem closeState_of_parked (hs : s.ctl.state = .parked) (b : Bool) :
    s.closeState b = s.setDecided (if s.roster.inSet then some .warming else none) := by
  simp [closeState, hs]

theorem closeState_of_warming (hs : s.ctl.state = .warming) (b : Bool) :
    s.closeState b = s.setDecided (if s.roster.inSet then none else some .parked) := by
  simp [closeState, hs]

theorem closeState_of_hold (hs : s.ctl.state = .hold) (b : Bool) : s.closeState b = s.closeHold := by
  simp [closeState, hs]

theorem closeShed_of_inSet (hi : s.roster.inSet = true) : s.closeShed = s.setDecided (some .active) :=
  if_pos hi

/-- Out of the set the shed-run counts the close, and a run of PARK_WORDS parks (R101). -/
theorem closeShed_of_not_inSet (hi : s.roster.inSet = false) :
    s.closeShed
      = s.setCtl
        { s.ctl with
          shedRun := min 255 (s.ctl.shedRun + 1)
          decided :=
            if 0 < s.port.config.parkWords.toNat ∧ min 255 (s.ctl.shedRun + 1) = s.port.config.parkWords.toNat then
              some .parked
            else none } :=
  if_neg (by simp [hi])

@[simp] theorem censusClose_config (s : State) : s.censusClose.port.config = s.port.config := by
  simp [censusClose]

/-- A close out of CHECK changes no station state (R71, R78). -/
theorem closeState_state_of_not_check (hs : s.ctl.state ≠ .check) (b : Bool) :
    (s.closeState b).ctl.state = s.ctl.state := by
  obtain ⟨hc, -⟩ | ⟨r, d, run, hold, -, h⟩ := s.closeState_cases b
  · exact absurd hc hs
  · rw [h]; rfl

theorem closeWord_state_of_not_check (hs : s.ctl.state ≠ .check) : s.closeWord.ctl.state = s.ctl.state := by
  rw [closeWord_ctl, closeState_state_of_not_check (by simpa using hs), censusClose_ctl]

/-- The generator takes no part in a close out of CHECK. -/
theorem closeWord_gen_of_not_check (hs : s.ctl.state ≠ .check) : s.closeWord.gen = s.gen := by
  rw [closeWord_gen, State.closeState_gen _ _ (by simpa using hs)]
  simp [censusClose]

end State

end Sys2Proof.Machine

open Sys2Proof Sys2Proof.Machine

/-- Settles O27: the state decision on the active-set result of the census just taken, and in HOLD on the hold count. -/
theorem wordCloseDecidesTheMembers : Obligations.WordCloseDecidesTheMembers := by
  intro s ht ho hd hm
  have hstate {x : StationState} (hs : s.ctl.state = x) : s.censusClose.ctl.state = x := by simp [hs]
  have hcheck : s.ctl.state ≠ .check := fun h => by simp [h, StationState.isMember] at hm
  have haside : s.ctl.state ≠ .aside := fun h => by simp [h, StationState.isMember] at hm
  have hroster : s.closeWord.roster = s.censusClose.roster := by
    rw [State.closeWord_roster]
    exact State.closeState_roster (.inl (by simpa using haside)) _
  intro run park
  refine ⟨s.closeWord, exec_wordClose_of_due ht ho hd, State.closeWord_state_of_not_check hcheck,
    State.closeWord_gen_of_not_check hcheck, fun hs => ?_, fun hs hi => ?_, fun hs hi => ?_, fun hs => ?_, fun hs => ?_,
    fun hs => ?_⟩ <;> rw [State.closeWord_ctl]
  · rw [State.closeState_of_active (hstate hs), hroster]; rfl
  · rw [State.closeState_of_shed (hstate hs), State.closeShed_of_inSet (hroster ▸ hi)]; rfl
  · rw [State.closeState_of_shed (hstate hs), State.closeShed_of_not_inSet (hroster ▸ hi), State.censusClose_config,
      State.censusClose_ctl]
    exact ⟨rfl, rfl⟩
  · rw [State.closeState_of_parked (hstate hs), hroster]; rfl
  · rw [State.closeState_of_warming (hstate hs), hroster]; rfl
  · rw [State.closeState_of_hold (hstate hs), State.closeHold, State.censusClose_ctl]
    exact ⟨rfl, by cases s.ctl.cold <;> rfl⟩
end

section
/-! ## What fixes the configuration record and the straps -/

namespace Sys2Proof.Machine

/-- The configuration record and the straps. -/
def State.setting (s : State) : ConfigRecord × Option Straps := (s.port.config, s.straps)

theorem State.setting_eq_iff {s t : State} :
    t.setting = s.setting ↔ t.port.config = s.port.config ∧ t.straps = s.straps := by
  simp [State.setting]

/-- A row that takes place only where its condition holds keeps the setting if what it then does keeps it. -/
theorem setting_of_whenDue {b : Bool} {s after t : State} (e : whenDue b s after = .next t)
    (ha : b = true → after.setting = s.setting) : t.setting = s.setting := by
  obtain rfl | ⟨hb, rfl⟩ := eq_or_of_whenDue e
  · rfl
  · exact ha hb

theorem setting_of_done {s after t : State} (e : done after = .next t) (ha : after.setting = s.setting) :
    t.setting = s.setting := by
  simp only [done, Host.Outcome.next.injEq] at e
  exact e ▸ ha

theorem setting_ite {c : Prop} [Decidable c] {s a b : State} (ha : a.setting = s.setting)
    (hb : b.setting = s.setting) : (if c then a else b).setting = s.setting :=
  iteInduction (motive := fun u : State => u.setting = s.setting) (fun _ => ha) (fun _ => hb)

/-- A byte of a transaction leaves the setting to what the byte does (R174). -/
theorem State.laterByte_setting {s : State} {cmd : PortCommand} {effect : Transaction → State → State}
    (he : ∀ t, (effect t (s.advanceByte t)).setting = s.setting) : (s.laterByte cmd effect).setting = s.setting := by
  unfold State.laterByte
  split
  · exact setting_ite (he _) rfl
  · rfl

theorem State.atByte_setting {s u : State} {n : Nat} {effect : Transaction → State → State} {t : Transaction}
    (hu : u.setting = s.setting) (he : (effect t u).setting = u.setting) : (atByte n effect t u).setting = s.setting :=
  setting_ite (he.trans hu) hu

theorem keepByte_setting (sdi : Byte) (t : Transaction) (s : State) : (keepByte sdi t s).setting = s.setting :=
  setting_ite rfl rfl

theorem keepByte_ctl (sdi : Byte) (t : Transaction) (s : State) : (keepByte sdi t s).ctl = s.ctl := by
  unfold keepByte
  split <;> rfl

/-- Every event of the station and its lines keeps the setting. -/
theorem exec_event_setting {s t : State} {c : Instr} (hc : c.isEvent = true) (e : exec c s = .next t) :
    t.setting = s.setting := by
  cases c with
  | frameStart =>
    refine setting_of_whenDue e (fun _ => setting_ite rfl (setting_ite ?_ rfl))
    simp [State.setting]
  | frameFallingEdge =>
    refine setting_of_whenDue e (fun _ => setting_ite ?_ rfl)
    simp [State.setting]
  | markClassified => exact setting_of_whenDue e (fun _ => by simp [State.setting])
  | ownEnd =>
    refine setting_of_whenDue e (fun _ => setting_ite rfl (setting_ite ?_ ?_)) <;> simp [State.setting]
  | stuck => exact setting_of_whenDue e (fun _ => setting_ite rfl rfl)
  | founding => exact setting_of_whenDue e (fun _ => by simp [State.setting])
  | freeRunFrame => exact setting_of_whenDue e (fun _ => setting_ite (by simp [State.setting]) rfl)
  | drivePoint | bitTime _ | wordClose | housekeepingPace =>
    exact setting_of_whenDue e (fun _ => by simp [State.setting])
  | warmUpComplete =>
    refine setting_of_whenDue e (fun _ => setting_ite ?_ ?_) <;> simp [State.setting]
  | onPoint =>
    refine setting_of_done e (setting_ite ?_ (setting_ite ?_ rfl)) <;> simp [State.setting]
  | currentTrigger => exact setting_of_whenDue e (fun _ => setting_ite rfl rfl)
  | ociAssert =>
    refine setting_of_whenDue e (fun _ => setting_ite ?_ (setting_ite ?_ rfl)) <;> simp [State.setting]
  | conversionComplete code =>
    refine setting_of_whenDue e (fun _ => ?_)
    split
    · simp [State.setting]
    · rfl
  | dmdActiveEdge =>
    have hjudged : ∀ u : State, (u.judgePeriod s.dmd.capture).setting = u.setting := fun u => by simp [State.setting]
    exact setting_of_whenDue e (fun _ => setting_ite (hjudged _) rfl)
  | dmdTimeout => exact setting_of_whenDue e (fun _ => by simp [State.setting])
  | frmFirstQualifiedLevel _ => exact setting_of_whenDue e (fun _ => setting_ite rfl rfl)
  | pullPoint | listenStuckDeclared | leadPoint | pulseEnd | deadTimeRunOut | dmdInactiveEdge =>
    exact setting_of_whenDue e (fun _ => rfl)
  | _ => simp [Instr.isEvent] at hc

/-- So does every other command but RESET in a started station whose RESET_N is high: the straps are sampled with
RESET_N low only, and WRITE_CONFIG replaces the record in SETUP only (R80, R173, R177). -/
theorem exec_setting {s t : State} {c : Instr} (e : exec c s = .next t) (hc : c ≠ .reset)
    (hs : s.ctl.state ≠ .setup) (hst : s.straps ≠ none) : t.setting = s.setting := by
  have hcommand : ∀ cmd r out, (s.commandByte cmd r out).setting = s.setting := fun _ _ _ => by simp [State.setting]
  cases c with
  | reset => exact absurd rfl hc
  | resetRelease x low =>
    exact setting_of_whenDue e (fun hn => absurd (Option.isNone_iff_eq_none.mp hn) hst)
  | writeConfig byte =>
    cases byte with
    | command => exact setting_of_done e (hcommand _ _ _)
    | later sdi =>
      refine setting_of_done e (State.laterByte_setting fun t => ?_)
      have hset : (keepByte sdi t (s.advanceByte t)).ctl.state ≠ .setup := by rw [keepByte_ctl]; exact hs
      exact State.atByte_setting (keepByte_setting sdi t _) (congrArg State.setting (if_neg hset))
  | readStatus byte =>
    cases byte with
    | command => exact setting_of_done e (setting_ite rfl rfl)
    | later sdi => exact setting_of_done e (State.laterByte_setting fun t => State.atByte_setting rfl rfl)
  | readHistory byte =>
    cases byte with
    | command => exact setting_of_done e (setting_ite rfl rfl)
    | later sdi => exact setting_of_done e (State.laterByte_setting fun t => State.atByte_setting rfl rfl)
  | ident byte | readConfig byte | readRoster byte =>
    cases byte with
    | command => exact setting_of_done e (hcommand _ _ _)
    | later sdi => exact setting_of_done e (State.laterByte_setting fun t => rfl)
  | start byte =>
    cases byte with
    | command => exact setting_of_done e (hcommand _ _ _)
    | later sdi =>
      refine setting_of_done e (State.laterByte_setting fun t => State.atByte_setting rfl ?_)
      simp [takeStart, State.setting]
  | aside byte =>
    cases byte with
    | command => exact setting_of_done e (hcommand _ _ _)
    | later sdi =>
      refine setting_of_done e (State.laterByte_setting fun t => State.atByte_setting rfl (setting_ite rfl ?_))
      simp [State.setting]
  | ret byte | clearFault byte =>
    cases byte with
    | command => exact setting_of_done e (hcommand _ _ _)
    | later sdi => exact setting_of_done e (State.laterByte_setting fun t => State.atByte_setting rfl rfl)
  | unknown code byte =>
    cases byte with
    | command => exact setting_of_done e (setting_ite (hcommand _ _ _) rfl)
    | later sdi => exact setting_of_done e (State.laterByte_setting fun t => rfl)
  | transactionCut => exact setting_of_whenDue e (fun _ => rfl)
  | _ => exact exec_event_setting rfl e

end Sys2Proof.Machine

open Sys2Proof Sys2Proof.Machine

/-- Settles O3: one lemma for the events and one for the port. -/
theorem recordAndStrapsStayFixedAfterStart : Obligations.RecordAndStrapsStayFixedAfterStart :=
  fun _ _ _ e hc hs hst => State.setting_eq_iff.mp (exec_setting e hc hs hst)
end

section
/-! ## OCI at a pulse and at a due on-point -/

namespace Sys2Proof.Machine

theorem State.started_of_state {s : State} {x : StationState} (hs : s.ctl.state = x) (hx : x ≠ .setup) :
    s.started = true := by
  simp [State.started, hs, hx]

/-! ### The truncation that completes the OC-run -/

/-- The run reaches OC_RUN, and an ACTIVE station enters FAULT (R88, R129, R130). -/
theorem State.countTruncated_of_last {s : State} (ha : s.ctl.state = .active)
    (hr : s.port.config.ocRun.toNat ≤ s.gen.ocRun + 1) :
    s.countTruncated = (s.setGen { s.gen with ocRun := s.gen.ocRun + 1 }).enterFault .overcurrent 2 := by
  refine (if_pos hr).trans ?_
  exact State.declareFault_of_member (by simp [ha, StationState.isMember]) _

theorem State.countTruncated_of_earlier {s : State} (hr : ¬s.port.config.ocRun.toNat ≤ s.gen.ocRun + 1) :
    s.countTruncated = s.setGen { s.gen with ocRun := s.gen.ocRun + 1 } :=
  if_neg hr

theorem State.runEnds_of_last {s : State} (ha : s.ctl.state = .active)
    (hr : s.port.config.ocRun.toNat ≤ s.gen.ocRun + 1) : s.runEnds = true := by
  simp [State.runEnds, ha, hr]

theorem State.setGen_setGen (s : State) (g g' : PhaseGenerator) : (s.setGen g).setGen g' = s.setGen g' := rfl

/-- What the station is then, `g` being the generator whose truncation it was (R89, R138). -/
theorem State.countTruncated_setGen {s : State} {g : PhaseGenerator} (ha : s.ctl.state = .active)
    (hr : s.port.config.ocRun.toNat ≤ g.ocRun + 1) :
    (s.setGen g).countTruncated
      = { s with
          gen := (s.setGen { g with ocRun := g.ocRun + 1 }).stopOwing.gen
          meas := { s.meas.leaveActive with pace := Timer.stopped, freeFrames := 0 }
          ctl :=
            { s.ctl with
              state := .fault, decided := none, faultCause := some .overcurrent, announce := 2, haltWord := false
              shedRun := 0, warmCount := 0, holdCount := 0, cold := false, bias := true }
          port := s.port.raise .overcurrent } := by
  rw [State.countTruncated_of_last (by exact ha) (by exact hr), State.enterFault_eq]
  rfl

/-- After the stop of an entry to FAULT the power stage rests (R124). -/
theorem State.stopOwing_rests (s : State) :
    s.stopOwing.gen.hg = false ∧ s.stopOwing.gen.lg = false ∧ s.stopOwing.gen.inFlight = false
      ∧ s.stopOwing.gen.remaining = 0 ∧ s.stopOwing.gen.onPoint = none ∧ s.stopOwing.gen.ramp = 0
      ∧ s.stopOwing.gen.duty = 0 ∧ s.stopOwing.gen.ocRun = 0 ∧ s.stopOwing.gen.leadWindow = false :=
  ⟨rfl, rfl, rfl, rfl, rfl, rfl, rfl, rfl, rfl⟩

/-- The rule of R121 is for ACTIVE alone. -/
theorem State.resumeLg_of_not_active {s : State} (hs : s.ctl.state ≠ .active) : s.resumeLg = s := if_neg hs

/-- An open lead window keeps LG as it is (R121). -/
theorem PhaseGenerator.resumeLg_of_leadWindow {g : PhaseGenerator} (hw : g.leadWindow = true) : g.resumeLg = g := by
  cases g
  simp_all [PhaseGenerator.resumeLg]

theorem PhaseGenerator.clear_iff {g : PhaseGenerator} :
    g.clear = true ↔ g.hg = false ∧ g.lg = false ∧ g.deadTimer = none := by
  simp [PhaseGenerator.clear, and_assoc]

theorem PhaseGenerator.ociHigh_iff {g : PhaseGenerator} : g.ociHigh = true ↔ g.oci.level = some true := by
  simp [PhaseGenerator.ociHigh]

/-- At a due pulse in its lead window OCI truncates the frame (R119, R128, R129). -/
theorem State.takeOnPoint_of_refused {s : State} (hw : s.gen.leadWindow = true) (hd : 8 ≤ s.latchedDuty)
    (hc : s.gen.clear = true) (ho : s.gen.ociHigh = true) :
    s.takeOnPoint = (s.setGen (s.gen.latch s.latchedDuty)).countTruncated.resumeLg := by
  have hheld : s.resumeLg = s := by
    unfold State.resumeLg
    split
    · rw [PhaseGenerator.resumeLg_of_leadWindow hw]; rfl
    · rfl
  rw [State.takeOnPoint, hheld]
  exact congrArg State.resumeLg ((if_pos ⟨hd, hc⟩).trans (if_pos ho))

theorem State.cutByOci_of_active {s : State} (ha : s.ctl.state = .active) :
    s.cutByOci = (s.setGen s.gen.endPulse).countTruncated :=
  if_pos ha

/-- A due pulse: the on-point of the instant, a duty to serve, and a lead window that has kept LG off (R114, R115, R119,
R122). -/
theorem State.pulseDue_of_leadWindow {s : State} (hon : s.onDue = true) (hd : 8 ≤ s.latchedDuty)
    (hc : s.gen.clear = true) (hw : s.gen.leadWindow = true) : s.pulseDue = true := by
  simp [State.pulseDue, hon, hd, PhaseGenerator.resumeLg_clear, hc, hw]

/-! ### OCI_ASSERT and ON_POINT by what they meet -/

theorem exec_ociAssert_of_pulse {s : State} (hs : s.started = true) (hl : s.gen.oci.level = some false)
    (hp : s.gen.inFlight = true) :
    exec .ociAssert s = .next (s.setGen { s.gen with oci := Filter.settle 2 true }).cutByOci := by
  rw [exec_ociAssert]
  simp [State.ociCan, hs, hl, hp]

/-- An asserted OCI is not asserted again (R127). -/
theorem exec_ociAssert_of_asserted {s : State} (hl : s.gen.oci.level = some true) : exec .ociAssert s = .next s :=
  whenDue_of_false (by simp [State.ociCan, hl]) _ _

/-- The pulse it would have cut was cut by an entry to FAULT of the same instant (R92; log 20). -/
theorem exec_ociAssert_of_owed {s : State} (hs : s.ctl.state = .fault) (hl : s.gen.oci.level = some false)
    (hp : s.gen.inFlight = false) (ho : s.gen.owedCut = true) :
    exec .ociAssert s = .next (s.setGen { s.gen with oci := Filter.settle 2 true }).takeOwedCut := by
  rw [exec_ociAssert]
  simp [State.ociCan, State.started_of_state hs, hl, hp, State.cutOwed, hs, ho]

/-- With no pulse to cut and none owed only the level is set (R127). -/
theorem exec_ociAssert_of_no_pulse {s : State} (hs : s.started = true) (hl : s.gen.oci.level = some false)
    (hp : s.gen.inFlight = false) (hf : s.ctl.state ≠ .fault) :
    exec .ociAssert s = .next (s.setGen { s.gen with oci := Filter.settle 2 true }) := by
  rw [exec_ociAssert]
  simp [State.ociCan, hs, hl, hp, State.cutOwed, hf]

theorem exec_onPoint_of_due {s : State} (h : s.onDue = true) : exec .onPoint s = .next s.takeOnPoint := by
  rw [exec_onPoint, if_pos h]

theorem State.onDue_of_not_active {s : State} (hs : s.ctl.state ≠ .active) : s.onDue = false :=
  Bool.eq_false_iff.mpr fun h => hs (State.onDue_iff.mp h).1

theorem exec_onPoint_of_owed {s : State} (hs : s.ctl.state = .fault) (ho : s.gen.owedPoint = true) :
    exec .onPoint s = .next s.takeOwedPoint := by
  rw [exec_onPoint, State.onDue_of_not_active (by simp [hs])]
  simp [State.pointOwed, hs, ho]

/-- With OCI asserted the owed on-point declares OVERCURRENT as a second cause (R92). -/
theorem State.takeOwedPoint_of_refused {s : State} (ho : s.gen.ociHigh = true) :
    s.takeOwedPoint = (s.setGen { s.gen with owedPoint := false }).raise .overcurrent :=
  if_pos ho

theorem State.takeOwedPoint_of_oci_low {s : State} (ho : ¬s.gen.ociHigh = true) :
    s.takeOwedPoint = s.setGen { s.gen with owedPoint := false } :=
  if_neg ho

/-- Out of ACTIVE an on-point that none is owed to does nothing (R114, R125). -/
theorem exec_onPoint_of_none {s : State} (hs : s.ctl.state ≠ .active)
    (ho : s.ctl.state ≠ .fault ∨ s.gen.owedPoint = false) : exec .onPoint s = .next s := by
  have howed : s.pointOwed = false := by rcases ho with h | h <;> simp [State.pointOwed, h]
  simp [exec_onPoint, State.onDue_of_not_active hs, howed]

end Sys2Proof.Machine
end

section
/-! ## How a command takes an ACTIVE station to ASIDE or to FAULT -/

namespace Sys2Proof.Machine

/-- OCI itself has sent the station to FAULT: OVERCURRENT is set, OCI asserted, and the power stage stopped. -/
structure State.Tripped (t : State) : Prop where
  state : t.ctl.state = .fault
  flag : t.flagSet .overcurrent = true
  level : t.gen.oci.level = some true
  hg : t.gen.hg = false
  lg : t.gen.lg = false
  inFlight : t.gen.inFlight = false

/-- The command leaves the OVERCURRENT flag set, the controller as it is, and both gates off (R92). -/
def State.AddsOvercurrent (t : State) (c : Instr) : Prop :=
  ∃ u, exec c t = .next u ∧ u.ctl = t.ctl ∧ u.flagSet .overcurrent = true ∧ u.gen.hg = false ∧ u.gen.lg = false

/-- An on-point owed to a station in FAULT does so where OCI is asserted (log 20). -/
theorem State.AddsOvercurrent.of_owedPoint {t : State} (ht : t.ctl.state = .fault) (ho : t.gen.owedPoint = true)
    (hl : t.gen.oci.level = some true) (hhg : t.gen.hg = false) (hlg : t.gen.lg = false) :
    t.AddsOvercurrent .onPoint := by
  rw [State.AddsOvercurrent, exec_onPoint_of_owed ht ho,
    State.takeOwedPoint_of_refused (PhaseGenerator.ociHigh_iff.mpr hl)]
  exact ⟨_, rfl, rfl, by simp, hhg, hlg⟩

/-- Where a command leaves an ACTIVE station `s`: in neither ASIDE nor FAULT, in one of them with the generator that the
entry from `s` leaves, or in FAULT by OCI. -/
inductive State.Departs (s t : State) : Prop where
  | remains (hf : t.ctl.state ≠ .fault) (ha : t.ctl.state ≠ .aside)
  | toAside (hs : t.ctl.state = .aside) (hg : t.gen = s.gen.stop)
  | toFault (hs : t.ctl.state = .fault) (hg : t.gen = s.stopOwing.gen)
  | byOci (ht : t.Tripped)

namespace State.Departs

variable {s t u : State}

theorem of_state {x : StationState} (h : t.ctl.state = x) (hf : x ≠ .fault) (ha : x ≠ .aside) : s.Departs t :=
  .remains (by rwa [h]) (by rwa [h])

theorem of_active (h : t.ctl.state = .active) : s.Departs t := of_state h (by decide) (by decide)

theorem of_listen (h : t.ctl.state = .listen) : s.Departs t := of_state h (by decide) (by decide)

theorem congr (h : s.Departs t) (hc : u.ctl = t.ctl) (hg : u.gen = t.gen) (hp : u.port = t.port) : s.Departs u := by
  cases h with
  | remains hf ha => exact .remains (by rwa [hc]) (by rwa [hc])
  | toAside hs hg' => exact .toAside (by rwa [hc]) (by rw [hg, hg'])
  | toFault hs hg' => exact .toFault (by rwa [hc]) (by rw [hg, hg'])
  | byOci ht =>
    obtain ⟨hs, hflag, hlevel, hhg, hlg, hp'⟩ := ht
    exact .byOci ⟨by rwa [hc], by rwa [State.flagSet, hp], by rwa [hg], by rwa [hg], by rwa [hg], by rwa [hg]⟩

theorem ite {c : Prop} [Decidable c] (ht : c → s.Departs t) (hu : ¬c → s.Departs u) :
    s.Departs (if c then t else u) :=
  iteInduction (motive := s.Departs) ht hu

theorem whenDue {b : Bool} {after : State} (hs : s.ctl.state = .active) (e : whenDue b s after = .next t)
    (ha : b = true → s.Departs after) : s.Departs t := by
  obtain rfl | ⟨hb, rfl⟩ := eq_or_of_whenDue e
  · exact of_active hs
  · exact ha hb

theorem done {after : State} (e : done after = .next t) (ha : s.Departs after) : s.Departs t := by
  simp only [Machine.done, Host.Outcome.next.injEq] at e
  exact e ▸ ha

/-! ### The entries -/

/-- An aside cause stops the generator as `s` has it (R85, R124). -/
theorem addCause (hu : u.ctl.state = .active) (hg : u.gen = s.gen) (c : AsideCause) : s.Departs (u.addCause c) := by
  rw [State.addCause_of_group (.inr (by simp [hu, StationState.isMember]))]
  exact .toAside rfl (by rw [hg])

theorem badPeriod (hu : u.ctl.state = .active) (hg : u.gen = s.gen) : s.Departs u.badPeriod := by
  refine ite (fun _ => ?_) (fun _ => of_active hu)
  exact addCause (by exact hu) (by exact hg) _

theorem judgePeriod (hu : u.ctl.state = .active) (hg : u.gen = s.gen) (n : Nat) : s.Departs (u.judgePeriod n) := by
  refine ite (fun _ => ?_) (fun _ => badPeriod hu hg)
  exact ite (fun _ => of_active hu) (fun _ => of_active hu)

/-- OCI truncates a frame of an ACTIVE station: it stays, or the run is complete (R129, R130). -/
theorem countTruncated (hu : u.ctl.state = .active) (ho : u.gen.oci.level = some true) :
    u.countTruncated.ctl.state = .active ∨ u.countTruncated.Tripped := by
  by_cases hr : u.port.config.ocRun.toNat ≤ u.gen.ocRun + 1
  · rw [State.countTruncated_of_last hu hr]
    exact .inr ⟨rfl, State.enterFault_flagSet .., ho, rfl, rfl, rfl⟩
  · rw [State.countTruncated_of_earlier hr]
    exact .inl hu

theorem takePulse (hu : u.ctl.state = .active) : s.Departs u.takePulse.resumeLg := by
  have hresume {v : State} (hv : v.ctl.state = .active) : s.Departs v.resumeLg :=
    of_active (by rw [State.resumeLg_ctl]; exact hv)
  unfold State.takePulse
  split
  · split
    next ho =>
      obtain h | h := countTruncated hu (PhaseGenerator.ociHigh_iff.mp ho)
      · exact hresume h
      · rw [State.resumeLg_of_not_active (by simp [h.state])]
        exact .byOci h
    next => exact hresume hu
  · exact hresume hu

theorem takeOnPoint (hs : s.ctl.state = .active) : s.Departs s.takeOnPoint :=
  takePulse (by rw [State.setGen_ctl, State.resumeLg_ctl]; exact hs)

/-- A housekeeping result of an ACTIVE station (R170, R171). -/
theorem takeResult (hs : s.ctl.state = .active) (c : Conversion) (code : Reading) :
    s.Departs (s.takeResult c code) := by
  unfold State.takeResult
  dsimp only
  split
  next => exact of_active (by rw [State.takeCurrent_ctl]; exact hs)
  next =>
    refine ite (fun _ => ?_) (fun _ => ite (fun _ => of_listen rfl) (fun _ => of_active hs))
    rw [State.declareFault_of_member (by simp [hs, StationState.isMember])]
    exact .toFault rfl rfl
  next =>
    refine ite (fun _ => ?_) (fun _ => ite (fun _ => of_active hs) (fun _ => of_active hs))
    exact addCause (by exact hs) (by exact rfl) _

/-- A judged bit: the halt leads to HOLD, the own check bit to FAULT (R73, R162). -/
theorem enterBit (hu : u.ctl.state = .active) (hg : u.stopOwing.gen = s.stopOwing.gen) (i : Nat) (r : ReadBit) :
    s.Departs (u.enterBit i r) := by
  unfold State.enterBit
  refine ite (fun _ => ite (fun _ => of_active hu) fun _ => ?halt) fun _ => ite (fun _ => ?census) fun _ => ?field
  case halt =>
    obtain h | h := State.readHalt_state (u.setExch { u.exch with halt := some r })
    · exact of_active (h.trans hu)
    · exact of_state h (by decide) (by decide)
  case census =>
    refine ite (fun _ => of_active hu) fun _ => ite (fun _ => ?_) fun _ => of_active hu
    rw [State.declareFault_of_member (by simp [hu, StationState.isMember])]
    exact .toFault rfl hg
  case field => exact ite (fun _ => of_active hu) fun _ => of_active hu

end State.Departs

end Sys2Proof.Machine
end

section
namespace Sys2Proof.Machine

/-! ### The frame line leads from ACTIVE to neither -/

/-- The station is in none of CHECK, ASIDE and FAULT. -/
def State.Unbarred (s : State) : Prop := s.ctl.state ≠ .check ∧ s.ctl.state ≠ .aside ∧ s.ctl.state ≠ .fault

namespace State.Unbarred

variable {s t : State}

theorem of_state {x : StationState} (h : s.Unbarred) (hx : t.ctl.state = s.ctl.state ∨ t.ctl.state = x)
    (hc : x ≠ .check) (ha : x ≠ .aside) (hf : x ≠ .fault) : t.Unbarred := by
  obtain hx | hx := hx
  · simpa only [State.Unbarred, hx] using h
  · simpa only [State.Unbarred, hx] using ⟨hc, ha, hf⟩

theorem of_ctl (h : s.Unbarred) (hc : t.ctl = s.ctl) : t.Unbarred := by simpa only [State.Unbarred, hc] using h

theorem of_active (h : s.ctl.state = .active) : s.Unbarred := by simp [State.Unbarred, h]

theorem departs (h : t.Unbarred) : s.Departs t := by
  obtain ⟨-, ha, hf⟩ := h
  exact .remains hf ha

theorem ite {c : Prop} [Decidable c] (ht : t.Unbarred) (hs : s.Unbarred) : (if c then t else s).Unbarred :=
  iteInduction (motive := State.Unbarred) (fun _ => ht) (fun _ => hs)

theorem rejoin (s : State) (b : Bool) : (s.rejoin b).Unbarred := by
  simp [State.Unbarred, State.rejoin_ctl, Controller.rejoin]

/-! A frame start: the bit of a cut frame, a due close, and the new frame (R3, R40, R78). -/

theorem judgeCutFrame (h : s.Unbarred) : s.judgeCutFrame.Unbarred :=
  ite (h.of_state (s.unsettled_state s.indexNat) (by decide) (by decide) (by decide)) h

theorem takeDueClose (h : s.Unbarred) : s.takeDueClose.Unbarred := by
  have ⟨hcheck, _⟩ := h
  refine ite ?_ h
  simpa only [State.Unbarred, State.closeWord_state_of_not_check hcheck] using h

theorem startFrame_departs {b : State} (h : s.Unbarred) (i : Fin 30) : b.Departs (s.startFrame i) := by
  obtain ⟨-, ha, hf⟩ := h
  have hcounted : (s.counted i).ctl.state = s.ctl.state ∧ (s.counted i).ctl.decided = s.ctl.decided := by
    rw [State.counted_eq]
    exact ⟨rfl, rfl⟩
  obtain ⟨hstate, hdecided⟩ := hcounted
  rw [State.startFrame_eq]
  cases (i + 1 == 0) with
  | false =>
    have hkept : (((s.counted i).wordStart false).resumeLg).ctl.state = s.ctl.state := by
      simpa [State.wordStart] using hstate
    exact .remains (by rwa [hkept]) (by rwa [hkept])
  | true =>
    have htaken : (((s.counted i).wordStart true).resumeLg).ctl.state = (s.counted i).ctl.stateAfter := by
      rw [State.wordStart_ctl]
      exact State.takeDecided_state _
    cases hd : s.ctl.decided with
    | none =>
      have hkept := htaken.trans ((Controller.stateAfter_of_none (hdecided.trans hd)).trans hstate)
      exact .remains (by rwa [hkept]) (by rwa [hkept])
    | some d =>
      have hentered := htaken.trans (Controller.stateAfter_of_some (hdecided.trans hd))
      exact .of_state hentered d.entered_ne_fault (by cases d <;> simp [Decision.entered])

theorem riseTail_departs {b : State} (h : s.Unbarred) : b.Departs s.riseTail := by
  unfold State.riseTail
  split
  next i _ =>
    refine State.Departs.ite (fun hw => ?_) fun _ => h.startFrame_departs i
    obtain ⟨-, -, hf⟩ := h
    exact absurd (State.withdrawing_iff.mp hw).1 hf
  next => exact h.departs

/-! The classes of a frame: a mark error rejoins (R27 to R29). -/

theorem markError (h : s.Unbarred) : s.markError.Unbarred := by
  rw [State.markError_eq]
  exact ite (rejoin _ _) (h.of_ctl rfl)

theorem classifyNormal (h : s.Unbarred) : s.classifyNormal.Unbarred := by
  have hclassed : (s.setFrame { s.frame with classed := .normal }).Unbarred := h.of_ctl rfl
  exact ite hclassed.markError hclassed

theorem classifyMark (h : s.Unbarred) (hl : s.ctl.state ≠ .listen) : s.classifyMark.Unbarred := by
  have hmarked : s.marked.Unbarred := h.of_ctl rfl
  rw [State.classifyMark_eq, if_neg hl]
  exact ite hmarked.markError hmarked

theorem fall (h : s.Unbarred) : s.fall.Unbarred := by
  have hfallen : s.fallen.Unbarred := by
    rw [State.fallen_eq]
    exact h.of_ctl rfl
  have hjudged : s.judgedFall.Unbarred := ite hfallen.classifyNormal hfallen
  rw [State.fall_eq]
  exact ite (hjudged.of_ctl rfl) hjudged

theorem followFall (h : s.Unbarred) (hl : s.ctl.state ≠ .listen) : s.followFall.Unbarred :=
  ite (h.classifyMark hl).fall h.fall

end State.Unbarred

/-! ### Every command -/

namespace State.Departs

variable {s t : State}

/-- A later byte of a transaction departs from the station whose port has shifted the byte out (R174). -/
theorem laterByte (hs : s.ctl.state = .active) {cmd : PortCommand} {effect : Transaction → State → State}
    (he : ∀ t, s.Departs (effect t (s.advanceByte t))) : s.Departs (s.laterByte cmd effect) := by
  unfold State.laterByte
  split
  · exact ite (fun _ => he _) (fun _ => of_active hs)
  · exact of_active hs

/-- The bit of a frame enters with its fourth sample and its damage (R38, R39). -/
theorem bitTime (hs : s.ctl.state = .active) (x : Bool) (i : Nat) (r : ReadBit) :
    s.Departs ((s.lastSample x).bitTime i r) := by
  unfold State.bitTime
  exact enterBit (by exact hs) (by exact rfl) i r

/-- Of all commands only a bad period, an ASIDE, a voltage result, a temperature result, the own check bit and OCI take
an ACTIVE station to ASIDE or to FAULT. -/
theorem exec {c : Instr} (e : exec c s = .next t) (hs : s.ctl.state = .active) : s.Departs t := by
  have hunbarred : s.Unbarred := .of_active hs
  have hsetup : s.ctl.state ≠ .setup := by simp [hs]
  have hlisten : s.ctl.state ≠ .listen := by simp [hs]
  have hcheck : s.ctl.state ≠ .check := by simp [hs]
  have hfault : s.ctl.state ≠ .fault := by simp [hs]
  have hcommand : ∀ cmd r out, s.Departs (s.commandByte cmd r out) := fun cmd r out =>
    of_active (by rw [State.commandByte_ctl]; exact hs)
  have hsilent : ∀ cmd, s.Departs (s.laterByte cmd noEffect) := fun cmd => laterByte hs fun _ => of_active hs
  cases c with
  | reset => exact done e (of_state (x := .setup) rfl (by decide) (by decide))
  | resetRelease x low =>
    refine whenDue hs e fun _ => ite (fun _ => ?_) fun _ => of_active hs
    exact ite (fun h => absurd h hsetup) fun _ => of_active hs
  | frameStart =>
    refine whenDue hs e fun _ => ite (fun h => absurd h hlisten) fun _ => ite (fun _ => ?_) fun _ => of_active hs
    have hhigh : (s.qualifyFrm true).Unbarred := hunbarred.of_ctl rfl
    rw [State.alignedRise_eq]
    exact hhigh.judgeCutFrame.takeDueClose.riseTail_departs
  | frameFallingEdge =>
    exact whenDue hs e fun _ => ite (fun _ => (hunbarred.followFall hlisten).departs) fun _ => of_active hs
  | markClassified => exact whenDue hs e fun _ => (hunbarred.classifyMark hlisten).departs
  | ownEnd =>
    refine whenDue hs e fun _ => ite (fun _ => of_active hs) fun _ => ite (fun _ => ?_) fun _ => of_active ?_
    · exact ite (fun _ => of_active hs) fun _ => of_active (by rw [State.startStuck_ctl]; exact hs)
    · rw [State.startStuck_ctl]; exact hs
  | stuck => exact whenDue hs e fun _ => ite (fun h => absurd h hfault) fun _ => of_listen rfl
  | founding =>
    refine whenDue hs e fun hf => ?_
    simp [State.foundingDue, hs] at hf
  | freeRunFrame =>
    exact whenDue hs e fun _ => ite (fun _ => of_active (by rw [State.stepTally_ctl]; exact hs)) fun _ => of_active hs
  | drivePoint => exact whenDue hs e fun _ => of_active (by rw [State.driveFrame_ctl]; exact hs)
  | bitTime sample => exact whenDue hs e fun _ => bitTime hs sample _ _
  | wordClose =>
    exact whenDue hs e fun _ => of_active ((State.closeWord_state_of_not_check hcheck).trans hs)
  | housekeepingPace => exact whenDue hs e fun _ => of_active (by rw [State.stepTally_ctl]; exact hs)
  | warmUpComplete =>
    refine whenDue hs e fun hw => ?_
    simp [State.warmDue, hs] at hw
  | onPoint =>
    refine done e (ite (fun _ => takeOnPoint hs) fun _ => ite (fun ho => ?_) fun _ => of_active hs)
    simp [State.pointOwed, hs] at ho
  | currentTrigger => exact whenDue hs e fun _ => ite (fun _ => of_active hs) fun _ => of_active hs
  | ociAssert =>
    refine whenDue hs e fun _ => ite (fun _ => ?_) fun _ => ite (fun _ => of_active hs) fun _ => of_active hs
    refine ite (fun _ => ?_) fun _ => of_active hs
    obtain h | h := countTruncated (u := (s.setGen { s.gen with oci := Filter.settle 2 true }).setGen
      { s.gen with oci := Filter.settle 2 true }.endPulse) hs rfl
    · exact of_active h
    · exact .byOci h
  | conversionComplete code =>
    refine whenDue hs e fun _ => ?_
    split
    · exact congr (takeResult hs _ code) rfl rfl rfl
    · exact of_active hs
  | dmdActiveEdge =>
    refine whenDue hs e fun _ => congr (t := if s.dmd.cond = .opened then _ else s) ?_ rfl rfl rfl
    exact ite (fun _ => judgePeriod (by exact hs) (by exact rfl) _) fun _ => of_active hs
  | dmdTimeout => exact whenDue hs e fun _ => badPeriod (by exact hs) (by exact rfl)
  | frmFirstQualifiedLevel high => exact whenDue hs e fun _ => ite (fun _ => of_active hs) fun _ => of_active hs
  | pullPoint | listenStuckDeclared | leadPoint | pulseEnd | deadTimeRunOut | dmdInactiveEdge | transactionCut =>
    exact whenDue hs e fun _ => of_active hs
  | ident byte | readConfig byte | readRoster byte =>
    cases byte with
    | command => exact done e (hcommand _ _ _)
    | later sdi => exact done e (hsilent _)
  | writeConfig byte =>
    cases byte with
    | command => exact done e (hcommand _ _ _)
    | later sdi =>
      refine done e (laterByte hs fun t => ?_)
      have hkept : (keepByte sdi t (s.advanceByte t)).ctl.state = .active := by rw [keepByte_ctl]; exact hs
      exact ite (fun _ => ite (fun _ => of_active hkept) fun _ => of_active hkept) fun _ => of_active hkept
  | start byte =>
    cases byte with
    | command => exact done e (hcommand _ _ _)
    | later sdi =>
      refine done e (laterByte hs fun t => ite (fun _ => ?_) fun _ => of_active hs)
      exact ite (fun h => absurd h hsetup) fun _ => of_active hs
  | readStatus byte | readHistory byte =>
    cases byte with
    | command => exact done e (ite (fun _ => of_active hs) fun _ => of_active hs)
    | later sdi => exact done e (laterByte hs fun t => ite (fun _ => of_active hs) fun _ => of_active hs)
  | aside byte =>
    cases byte with
    | command => exact done e (hcommand _ _ _)
    | later sdi =>
      refine done e (laterByte hs fun t => ite (fun _ => ite (fun _ => of_active hs) fun _ => ?_) fun _ => of_active hs)
      exact addCause (by exact hs) (by exact rfl) _
  | ret byte =>
    cases byte with
    | command => exact done e (hcommand _ _ _)
    | later sdi => exact done e (laterByte hs fun t => ite (fun _ => of_active hs) fun _ => of_active hs)
  | clearFault byte =>
    cases byte with
    | command => exact done e (hcommand _ _ _)
    | later sdi => exact done e (laterByte hs fun t => ite (fun _ => of_listen rfl) fun _ => of_active hs)
  | unknown code byte =>
    cases byte with
    | command => exact done e (ite (fun _ => hcommand _ _ _) fun _ => of_active hs)
    | later sdi => exact done e (hsilent _)

/-! ### OCI at the instant of the departure -/

theorem ociAssert (h : s.Departs t) (hr : s.runEnds = true) (hp : s.gen.inFlight = true)
    (hl : s.gen.oci.level = some false) :
    (t.ctl.state = .fault → t.AddsOvercurrent .ociAssert)
      ∧ (t.ctl.state = .aside →
          Machine.exec .ociAssert t = .next { t with gen := { t.gen with oci := ⟨2, true, some true⟩ } }) := by
  cases h with
  | remains hf ha => exact ⟨fun h => absurd h hf, fun h => absurd h ha⟩
  | toAside ht hg =>
    refine ⟨fun h => absurd (ht.symm.trans h) (by decide), fun _ => ?_⟩
    rw [exec_ociAssert_of_no_pulse (State.started_of_state ht (by decide)) (by rw [hg]; exact hl) (by rw [hg]; rfl)
      (by simp [ht])]
    rfl
  | toFault ht hg =>
    refine ⟨fun _ => ?_, fun h => absurd (ht.symm.trans h) (by decide)⟩
    have howed : t.gen.owedCut = true := by rw [hg, State.stopOwing_gen]; simp [hr, hp]
    have hoff : t.gen.hg = false ∧ t.gen.lg = false := by rw [hg]; exact ⟨rfl, rfl⟩
    exact ⟨_, exec_ociAssert_of_owed ht (by rw [hg]; exact hl) (by rw [hg]; rfl) howed, rfl,
      by simp [State.takeOwedCut], hoff⟩
  | byOci ht =>
    obtain ⟨hstate, hflag, hlevel, hhg, hlg, -⟩ := ht
    exact ⟨fun _ => ⟨t, exec_ociAssert_of_asserted hlevel, rfl, hflag, hhg, hlg⟩,
      fun h => absurd (hstate.symm.trans h) (by decide)⟩

theorem onPoint (h : s.Departs t) (hr : s.runEnds = true) (hp : s.pulseDue = true)
    (hl : s.gen.oci.level = some true) :
    (t.ctl.state = .fault → t.AddsOvercurrent .onPoint)
      ∧ (t.ctl.state = .aside → Machine.exec .onPoint t = .next t) := by
  cases h with
  | remains hf ha => exact ⟨fun h => absurd h hf, fun h => absurd h ha⟩
  | toAside ht hg =>
    exact ⟨fun h => absurd (ht.symm.trans h) (by decide),
      fun _ => exec_onPoint_of_none (by simp [ht]) (.inl (by simp [ht]))⟩
  | toFault ht hg =>
    refine ⟨fun _ => ?_, fun h => absurd (ht.symm.trans h) (by decide)⟩
    have howed : t.gen.owedPoint = true := by rw [hg, State.stopOwing_gen]; simp [hr, hp]
    exact .of_owedPoint ht howed (by rw [hg]; exact hl) (by rw [hg]; rfl) (by rw [hg]; rfl)
  | byOci ht =>
    obtain ⟨hstate, hflag, hlevel, hhg, hlg, -⟩ := ht
    refine ⟨fun _ => ?_, fun h => absurd (hstate.symm.trans h) (by decide)⟩
    cases ho : t.gen.owedPoint with
    | false => exact ⟨t, exec_onPoint_of_none (by simp [hstate]) (.inr ho), rfl, hflag, hhg, hlg⟩
    | true => exact .of_owedPoint hstate ho hlevel hhg hlg

end State.Departs

end Sys2Proof.Machine

open Sys2Proof Sys2Proof.Machine

/-- Settles O35: OCI that completes the run at a pulse or a due on-point; OCI after a command of the same instant, by
how the command departs from ACTIVE; and an on-point owed to a station in FAULT. -/
theorem truncatedRunDeclaresOvercurrent : Obligations.TruncatedRunDeclaresOvercurrent := by
  refine ⟨fun s c hs hr hc => ?_, fun s t c e hs hp hr hl => ?_,
    fun s t c e hs hr hon htaken hd hhg hlg htimer hw hl => ?_, fun s hs ho => ?_⟩
  · obtain ⟨rfl, hl, hp⟩ | ⟨rfl, hon, htaken, hd, hhg, hlg, htimer, hw, hl⟩ := hc
    · rw [exec_ociAssert_of_pulse (State.started_of_state hs (by decide)) hl hp,
        State.cutByOci_of_active (by exact hs), State.setGen_setGen, State.countTruncated_setGen hs (by exact hr)]
      obtain ⟨hhg, hlg, hp', hrem, hon, hramp, hduty, hrun, hlead⟩ := State.stopOwing_rests _
      exact ⟨_, _, rfl, hhg, hlg, hp', hrem, hon, hramp, hduty, hrun, hlead, rfl⟩
    · rw [exec_onPoint_of_due (State.onDue_iff.mpr ⟨hs, htaken, hon⟩),
        State.takeOnPoint_of_refused hw hd (PhaseGenerator.clear_iff.mpr ⟨hhg, hlg, htimer⟩)
          (PhaseGenerator.ociHigh_iff.mpr hl),
        State.countTruncated_setGen hs (by exact hr), State.resumeLg_of_not_active (by simp)]
      obtain ⟨hhg, hlg, hp, hrem, hon, hramp, hduty, hrun, hlead⟩ := State.stopOwing_rests _
      exact ⟨_, _, rfl, hhg, hlg, hp, hrem, hon, hramp, hduty, hrun, hlead, rfl⟩
  · exact (State.Departs.exec e hs).ociAssert (State.runEnds_of_last hs hr) hp hl
  · have hpulse : s.pulseDue = true :=
      State.pulseDue_of_leadWindow (State.onDue_iff.mpr ⟨hs, htaken, hon⟩) hd
        (PhaseGenerator.clear_iff.mpr ⟨hhg, hlg, htimer⟩) hw
    exact (State.Departs.exec e hs).onPoint (State.runEnds_of_last hs hr) hpulse hl
  · intro paid
    rw [exec_onPoint_of_owed hs ho]
    refine ⟨fun hl => ?_, fun hl => ?_⟩
    · rw [State.takeOwedPoint_of_oci_low fun h => hl (PhaseGenerator.ociHigh_iff.mp h)]; rfl
    · rw [State.takeOwedPoint_of_refused (PhaseGenerator.ociHigh_iff.mpr hl)]; rfl
end

section
/-! ## The local phase request at a word close -/

namespace Sys2Proof.Machine

/-- With the band at 0 every threshold counts as it stands (R97). -/
theorem phaseCount_zero (sheds : List Nat) (demand : Nat) :
    phaseCount sheds 0 demand = 1 + (sheds.filter (fun t => decide (t ≤ demand))).length := rfl

/-- A present demand raises L to the count at the thresholds, and lowers it only to the count below the band (R98). -/
theorem nextRequest_of_valid (c : ConfigRecord) (demand request : Nat) :
    nextRequest c true demand request
      = if request < phaseCount (shedThresholds c) 0 demand then phaseCount (shedThresholds c) 0 demand
        else if phaseCount (shedThresholds c) c.shedHyst.toNat demand < request then
          phaseCount (shedThresholds c) c.shedHyst.toNat demand
        else request := rfl

theorem nextRequest_of_lost (c : ConfigRecord) (demand request : Nat) : nextRequest c false demand request = 1 := rfl

namespace State

/-- The state decision of a close, the entry to FAULT included, keeps L (R89, R96). -/
@[simp] theorem closeState_request (s : State) (b : Bool) : (s.closeState b).ctl.request = s.ctl.request := by
  obtain ⟨-, h⟩ | ⟨r, d, run, hold, -, h⟩ := s.closeState_cases b
  · rw [h, enterFault_ctl]; rfl
  · rw [h]; rfl

/-- So a close leaves L as the request's own step made it (R96). -/
theorem closeWord_request (s : State) :
    s.closeWord.ctl.request = nextRequest s.port.config s.dmd.valid s.dmd.lastGood.toNat s.ctl.request := by
  rw [closeWord_ctl, closeState_request, censusClose_ctl]

end State

end Sys2Proof.Machine

open Sys2Proof Sys2Proof.Machine

/-- Settles O28: the request of the close by whether the monitor is VALID. -/
theorem wordCloseUpdatesTheRequest : Obligations.WordCloseUpdatesTheRequest := by
  intro s ht ho hd c thresholds demand up down
  have hup : up = phaseCount (shedThresholds c) 0 demand := (phaseCount_zero _ _).symm
  refine ⟨s.closeWord, exec_wordClose_of_due ht ho hd, fun hv => ?_, fun hv => ?_⟩ <;> rw [State.closeWord_request, hv]
  · rw [nextRequest_of_valid, hup]; rfl
  · exact nextRequest_of_lost ..
end

section
/-! ## The end of a warm-up -/

namespace Sys2Proof.Machine

theorem exec_warmUpComplete_of_inSet {s : State} (hw : s.warmDue = true) (hi : s.roster.inSet = true) :
    exec .warmUpComplete s = .next (s.enterDecision .active).swapAtFrameZero.resumeLg :=
  (whenDue_of_true hw _ _).trans (by rw [if_pos hi])

theorem exec_warmUpComplete_of_not_inSet {s : State} (hw : s.warmDue = true) (hi : s.roster.inSet = false) :
    exec .warmUpComplete s = .next (s.enterDecision .parked) :=
  (whenDue_of_true hw _ _).trans (by simp [hi])

namespace State

variable {s : State}

/-! The swap that goes with an entry at a frame 0 start (R112). -/

/-- With R121 after it, it touches in ACTIVE the generator and the measurement unit alone. -/
theorem swapAtFrameZero_resumeLg (ha : s.ctl.state = .active) :
    s.swapAtFrameZero.resumeLg
      = { s with gen := s.swapAtFrameZero.gen.resumeLg, meas := s.swapAtFrameZero.meas } := by
  unfold swapAtFrameZero
  split <;> exact if_pos ha

/-- Of the generator it keeps the gates, the ramp, the duty and the OC-run. -/
theorem swapAtFrameZero_gates (s : State) :
    s.swapAtFrameZero.gen.hg = s.gen.hg ∧ s.swapAtFrameZero.gen.lg = s.gen.lg
      ∧ s.swapAtFrameZero.gen.ramp = s.gen.ramp ∧ s.swapAtFrameZero.gen.duty = s.gen.duty
      ∧ s.swapAtFrameZero.gen.ocRun = s.gen.ocRun := by
  unfold swapAtFrameZero
  split <;> exact ⟨rfl, rfl, rfl, rfl, rfl⟩

theorem swapAtFrameZero_of_ne (h : s.frame.index ≠ some 0) : s.swapAtFrameZero = s := if_neg h

/-- At a frame 0 start in ACTIVE the schedule is the roster unit's, and the word is whole (R112, R143). -/
theorem swapAtFrameZero_of_active (h : s.frame.index = some 0) (ha : s.ctl.state = .active) :
    s.swapAtFrameZero.meas = { s.meas with wholeWord := true } ∧ s.swapAtFrameZero.gen.rank = s.roster.rank
      ∧ s.swapAtFrameZero.gen.nActive = some s.roster.nActive
      ∧ s.swapAtFrameZero.gen.onPoint = onPointOf s.roster.rank s.roster.nActive s.frameLen := by
  rw [swapAtFrameZero, if_pos h]
  simp [swapSchedule, copiesSchedule, ha]

end State

/-- LG is on after R121 when it was, or when R121 lets it come on. -/
theorem PhaseGenerator.resumeLg_lg_iff (g : PhaseGenerator) :
    g.resumeLg.lg = true ↔ g.lg = true ∨ (g.hg = false ∧ g.leadWindow = false ∧ g.deadTimer = none) := by
  simp [resumeLg, and_assoc, and_comm (a := g.deadTimer = none)]

/-- The stop as one update: the dead time restarts when a gate was on (R117, R124). -/
theorem PhaseGenerator.stop_eq (g : PhaseGenerator) :
    g.stop
      = { g with
          onPoint := none, leadWindow := false, duty := 0, ramp := 0, ocRun := 0, inFlight := false, remaining := 0
          hg := false, lg := false
          deadTimer := if g.hg = true ∨ g.lg = true then some 0 else g.deadTimer } := by
  rw [← g.stop_deadTimer]; rfl

end Sys2Proof.Machine

open Sys2Proof Sys2Proof.Machine

/-- Settles O30: in the set the entry to ACTIVE, the swap of a frame 0 start and R121; out of it the entry to PARKED. -/
theorem warmUpCompleteEndsTheWarmUp : Obligations.WarmUpCompleteEndsTheWarmUp := by
  intro s hs hc hw
  have hdue : s.warmDue = true := by simp [State.warmDue, hs, hc, hw]
  refine ⟨fun hi => ?_, fun hi => ?_⟩
  · have hexec := exec_warmUpComplete_of_inSet hdue hi
    rw [State.swapAtFrameZero_resumeLg rfl] at hexec
    obtain ⟨hhg, hlg, hramp, hduty, hrun⟩ := (s.enterDecision .active).swapAtFrameZero_gates
    have hresume := (s.enterDecision .active).swapAtFrameZero.gen.resumeLg_lg_iff
    rw [hlg, hhg] at hresume
    refine ⟨_, _, hexec, hramp, hduty, hrun, hhg, hresume, fun hz => ?_, fun hz => ?_⟩
    · rw [State.swapAtFrameZero_of_ne (by exact hz)]
      exact ⟨rfl, rfl, rfl, rfl⟩
    · obtain ⟨hmeas, hrank, hnActive, hon⟩ :=
        State.swapAtFrameZero_of_active (s := s.enterDecision .active) hz rfl
      refine ⟨hmeas, hrank, hnActive, fun r hr => hon.trans ?_⟩
      rw [State.enterDecision_roster, hr]
      rfl
  · rw [exec_warmUpComplete_of_not_inSet hdue hi, State.enterDecision, State.stopSwitching,
      PhaseGenerator.stop_eq]
    rfl
end

section
/-! ## The gates of the power stage -/

namespace Sys2Proof.Machine

/-- What `GatesSafe` reads: the gates, the pulse in flight, the dead-time timer, and the station's state. -/
def State.stage (s : State) : (Bool × Bool × Bool × Option Nat) × StationState :=
  ((s.gen.hg, s.gen.lg, s.gen.inFlight, s.gen.deadTimer), s.ctl.state)

/-- Both gates are off and no pulse is in flight. -/
def PhaseGenerator.Off (g : PhaseGenerator) : Prop := g.hg = false ∧ g.lg = false ∧ g.inFlight = false

theorem PhaseGenerator.stop_off (g : PhaseGenerator) : g.stop.Off := ⟨rfl, rfl, rfl⟩

@[simp] theorem State.counted_stage (s : State) (i : Fin 30) : (s.counted i).stage = s.stage := by
  rw [State.counted_eq]; rfl

@[simp] theorem State.swapAtFrameZero_stage (s : State) : s.swapAtFrameZero.stage = s.stage := by
  unfold State.swapAtFrameZero; split <;> rfl

namespace GatesSafe

variable {s t : State}

/-- A step that leaves the power stage and the station's state alone keeps the invariant. -/
theorem congr (h : GatesSafe s) (hst : t.stage = s.stage) : GatesSafe t := by
  simp only [State.stage, Prod.mk.injEq] at hst
  obtain ⟨⟨hhg, hlg, hp, hd⟩, hs⟩ := hst
  simpa only [GatesSafe, hhg, hlg, hp, hd, hs] using h

theorem setExch (h : GatesSafe s) (e : ExchangeUnit) : GatesSafe (s.setExch e) := h.congr rfl
theorem setMeas (h : GatesSafe s) (m : MeasurementUnit) : GatesSafe (s.setMeas m) := h.congr rfl
theorem setDmd (h : GatesSafe s) (d : DemandMonitor) : GatesSafe (s.setDmd d) := h.congr rfl
theorem raise (h : GatesSafe s) (f : Flag) : GatesSafe (s.raise f) := h.congr rfl

theorem of_off (h : t.gen.Off) : GatesSafe t := by
  obtain ⟨hhg, hlg, hp⟩ := h
  simp [GatesSafe, hhg, hlg, hp]

/-- Only ACTIVE and SHED have a gate on (R123, R126). -/
theorem off (h : GatesSafe s) (ha : s.ctl.state ≠ .active) (hs : s.ctl.state ≠ .shed) : s.gen.Off := by
  obtain ⟨-, hhg, hlg, hp, -⟩ := h
  have hg : s.gen.hg = false := Bool.eq_false_iff.mpr fun e => (hhg e).elim ha hs
  exact ⟨hg, Bool.eq_false_iff.mpr fun e => ha (hlg e), hp.trans hg⟩

theorem ite {c : Prop} [Decidable c] (ht : c → GatesSafe t) (hs : ¬c → GatesSafe s) :
    GatesSafe (if c then t else s) :=
  iteInduction (motive := GatesSafe) ht hs

/-! ### The switches -/

/-- HG off, with its pulse: LG was off while HG was on, so a gate still on is LG with the timer run out (R117, R120). -/
theorem endPulse (h : GatesSafe s) : GatesSafe (s.setGen s.gen.endPulse) := by
  obtain ⟨hboth, -, hlg, -, hd⟩ := h
  have htimer : s.gen.lg = true → s.gen.endPulse.deadTimer = none := fun e => by
    have hhg : s.gen.hg = false := Bool.eq_false_iff.mpr fun e' => hboth ⟨e', e⟩
    simp [PhaseGenerator.endPulse, PhaseGenerator.switchHgOff, hhg, hd (.inr e)]
  exact ⟨nofun, nofun, hlg, rfl, fun e => htimer (e.resolve_left nofun)⟩

/-- LG off: a pulse in flight goes on, and no dead time begins in it (R117, R123). -/
theorem switchLgOff (h : GatesSafe s) : GatesSafe (s.setGen s.gen.switchLgOff) := by
  obtain ⟨hboth, hhg, -, hp, hd⟩ := h
  have htimer : s.gen.hg = true → s.gen.switchLgOff.deadTimer = none := fun e => by
    have hlg : s.gen.lg = false := Bool.eq_false_iff.mpr fun e' => hboth ⟨e, e'⟩
    simp [PhaseGenerator.switchLgOff, hlg, hd (.inl e)]
  exact ⟨nofun, hhg, nofun, hp, fun e => htimer (e.resolve_right nofun)⟩

/-- LG on in ACTIVE, with HG off and the dead time run out (R121). -/
theorem turnLgOn (h : GatesSafe s) (ha : s.ctl.state = .active) (hhg : s.gen.hg = false)
    (hd : s.gen.deadTimer = none) : GatesSafe (s.setGen { s.gen with lg := true }) := by
  obtain ⟨-, -, -, hp, -⟩ := h
  exact ⟨fun e => by simp [hhg] at e, fun _ => .inl ha, fun _ => ha, hp, fun _ => hd⟩

/-- HG on in ACTIVE with its pulse, both gates being off and the dead time run out (R119, R120). -/
theorem startPulse (ha : s.ctl.state = .active) (hc : s.gen.clear = true) : GatesSafe (s.setGen s.gen.startPulse) := by
  obtain ⟨-, hlg, hd⟩ := PhaseGenerator.clear_iff.mp hc
  have hoff : s.gen.startPulse.lg = false := hlg
  exact ⟨fun e => by simp [hoff] at e, fun _ => .inl ha, fun _ => ha, rfl, fun _ => hd⟩

theorem resumeLg (h : GatesSafe s) : GatesSafe s.resumeLg := by
  refine ite (fun ha => ?_) fun _ => h
  obtain ⟨hboth, hhg, -, hp, hd⟩ := h
  have hon := s.gen.resumeLg_lg_iff
  refine ⟨fun hg => ?both, hhg, fun _ => ha, hp, fun hg => ?timer⟩
  case both =>
    obtain ⟨ehg, elg⟩ := hg
    obtain hlg | ⟨hoff, -⟩ := hon.mp elg
    · exact hboth ⟨ehg, hlg⟩
    · exact Bool.false_ne_true (hoff.symm.trans ehg)
  case timer =>
    obtain ehg | elg := hg
    · exact hd (.inl ehg)
    · obtain hlg | ⟨-, -, hd'⟩ := hon.mp elg
      · exact hd (.inr hlg)
      · exact hd'

/-! ### The station controller -/

theorem enterAside (s : State) : GatesSafe s.enterAside := of_off s.gen.stop_off
theorem enterFault (s : State) (c : FaultCause) (n : Nat) : GatesSafe (s.enterFault c n) := of_off s.gen.stop_off
theorem enterHold (s : State) : GatesSafe s.enterHold := of_off s.gen.stop_off
theorem rejoin (s : State) (b : Bool) : GatesSafe (s.rejoin b) := of_off s.gen.stop_off

theorem addCause (h : GatesSafe s) (c : AsideCause) : GatesSafe (s.addCause c) :=
  ite (fun _ => enterAside _) fun _ => ite (fun _ => h.congr rfl) fun _ => h.congr rfl

theorem declareFault (h : GatesSafe s) (c : FaultCause) : GatesSafe (s.declareFault c) := by
  unfold State.declareFault
  split
  · exact h
  · exact ite (fun _ => enterFault _ c 0) fun _ => h
  · exact h.congr rfl
  · exact enterFault s c _

theorem readHalt (h : GatesSafe s) : GatesSafe s.readHalt := by
  unfold State.readHalt
  dsimp only
  split
  iterate 4 exact enterHold _
  next hs => exact h.congr (by simp [State.stage])
  next => exact h.congr rfl

/-- ACTIVE finds the gates as they are, a pulse that ran on into SHED included, and SHED lets it run on (R123); every
other entry is a stop (R124, R126). -/
theorem enterDecision (h : GatesSafe s) (d : Decision) : GatesSafe (s.enterDecision d) := by
  cases d with
  | active =>
    obtain ⟨hboth, -, -, hp, hd⟩ := h
    exact ⟨hboth, fun _ => .inl rfl, fun _ => rfl, hp, hd⟩
  | shed =>
    obtain ⟨hboth, -, -, hp, hd⟩ := h.switchLgOff
    exact ⟨hboth, fun _ => .inr rfl, nofun, hp, hd⟩
  | check | parked | warming => exact of_off s.gen.stop_off

theorem takeDecided (h : GatesSafe s) : GatesSafe s.takeDecided := by
  unfold State.takeDecided
  split
  · exact h.enterDecision _
  · exact h

/-- A listener's gates are off, so they are off in CHECK or ASIDE (R82, R85, R126). -/
theorem startCheck (h : GatesSafe s) (hl : s.ctl.state = .listen) : GatesSafe s.startCheck := by
  rw [State.startCheck_eq]
  exact ite (fun _ => of_off (h.off (by simp [hl]) (by simp [hl]))) fun _ => enterAside _

theorem startStation (h : GatesSafe s) : GatesSafe s.startStation :=
  ite (fun hs => of_off (h.off (by simp [hs]) (by simp [hs]))) fun _ => h

/-! ### The word and the frame line -/

theorem closeWord (h : GatesSafe s) : GatesSafe s.closeWord := by
  have hdecided : GatesSafe (s.censusClose.closeState s.exch.damaged) := by
    have hgen : s.censusClose.gen = s.gen := by simp [State.censusClose]
    have hcensus : GatesSafe s.censusClose := h.congr (by simp [State.stage, hgen])
    obtain ⟨-, hf⟩ | ⟨r, d, run, hold, -, hk⟩ := s.censusClose.closeState_cases s.exch.damaged
    · rw [hf]; exact enterFault _ _ _
    · rw [hk]; exact hcensus.congr rfl
  exact hdecided.congr (by simp [State.stage, State.closeWord_gen, State.closeWord_ctl])

theorem enterBit (h : GatesSafe s) (i : Nat) (r : ReadBit) : GatesSafe (s.enterBit i r) := by
  refine ite (fun _ => ite (fun _ => h.congr rfl) fun _ => ?halt) fun _ =>
    ite (fun _ => ?census) fun _ => ite (fun _ => h.congr rfl) fun _ => h.congr rfl
  case halt => exact (h.setExch _).readHalt
  case census =>
    exact ite (fun _ => h.congr rfl) fun _ => ite (fun _ => h.declareFault .duplicate) fun _ => h

theorem bitTime (h : GatesSafe s) (i : Nat) (r : ReadBit) : GatesSafe (s.bitTime i r) :=
  (h.setExch _).enterBit i r

theorem wordStart (h : GatesSafe s) (first : Bool) : GatesSafe (s.wordStart first) :=
  ite (fun _ => h.takeDecided.congr rfl) fun _ => h.congr rfl

theorem startFrame (h : GatesSafe s) (i : Fin 30) : GatesSafe (s.startFrame i) := by
  rw [State.startFrame_eq]
  exact ((h.congr (s.counted_stage i)).wordStart _).resumeLg

theorem riseTail (h : GatesSafe s) : GatesSafe s.riseTail := by
  unfold State.riseTail
  split
  · exact ite (fun _ => h.congr rfl) fun _ => h.startFrame _
  · exact h

theorem alignedRise (h : GatesSafe s) : GatesSafe s.alignedRise := by
  have hjudged : GatesSafe s.judgeCutFrame := ite (fun _ => h.bitTime _ _) fun _ => h
  have hclosed : GatesSafe s.judgeCutFrame.takeDueClose := ite (fun _ => hjudged.closeWord) fun _ => hjudged
  rw [State.alignedRise_eq]
  exact hclosed.riseTail

theorem markError (h : GatesSafe s) : GatesSafe s.markError := by
  rw [State.markError_eq]
  exact ite (fun _ => rejoin _ false) fun _ => h.congr rfl

theorem classifyNormal (h : GatesSafe s) : GatesSafe s.classifyNormal := by
  have hclassed : GatesSafe (s.setFrame { s.frame with classed := .normal }) := h.congr rfl
  exact ite (fun _ => hclassed.markError) fun _ => hclassed

theorem classifyMark (h : GatesSafe s) : GatesSafe s.classifyMark := by
  have hmarked : GatesSafe s.marked := h.congr rfl
  rw [State.classifyMark_eq]
  refine ite (fun hl => ite (fun _ => ?_) fun _ => hmarked) fun _ => ite (fun _ => hmarked.markError) fun _ => hmarked
  exact startCheck (h.congr rfl) hl

theorem fall (h : GatesSafe s) : GatesSafe s.fall := by
  have hfallen : GatesSafe s.fallen := h.congr (by rw [State.fallen_eq]; rfl)
  have hjudged : GatesSafe s.judgedFall := ite (fun _ => hfallen.classifyNormal) fun _ => hfallen
  rw [State.fall_eq]
  exact ite (fun _ => hjudged.congr rfl) fun _ => hjudged

theorem followFall (h : GatesSafe s) : GatesSafe s.followFall :=
  ite (fun _ => h.classifyMark.fall) fun _ => h.fall

/-! ### The phase generator -/

theorem countTruncated (h : GatesSafe s) : GatesSafe s.countTruncated := by
  have hcounted : GatesSafe (s.setGen { s.gen with ocRun := s.gen.ocRun + 1 }) := h.congr rfl
  exact ite (fun _ => hcounted.declareFault .overcurrent) fun _ => hcounted

theorem takePulse (h : GatesSafe s) (ha : s.ctl.state = .active) : GatesSafe s.takePulse := by
  refine ite (fun hc => ite (fun _ => h.countTruncated) fun _ => ?_) fun _ => h
  obtain ⟨-, hclear⟩ := hc
  exact startPulse ha hclear

theorem takeOnPoint (h : GatesSafe s) (ha : s.ctl.state = .active) : GatesSafe s.takeOnPoint := by
  have hlatched : GatesSafe (s.resumeLg.setGen (s.resumeLg.gen.latch s.latchedDuty)) := h.resumeLg.congr rfl
  exact (hlatched.takePulse (by simpa using ha)).resumeLg

theorem cutByOci (h : GatesSafe s) : GatesSafe s.cutByOci :=
  ite (fun _ => h.endPulse.countTruncated) fun _ => h.endPulse

/-! ### The measurement unit and the demand monitor -/

theorem takeResult (h : GatesSafe s) (c : Conversion) (code : Reading) : GatesSafe (s.takeResult c code) := by
  unfold State.takeResult
  dsimp only
  split
  next => exact h.congr (by simp [State.stage])
  next =>
    refine ite (fun _ => ?_) fun _ => ite (fun _ => rejoin _ false) fun _ => h.congr rfl
    exact ((h.setMeas _).setMeas _).declareFault .overtemp
  next =>
    refine ite (fun _ => ?_) fun _ => ite (fun _ => h.congr rfl) fun _ => h.congr rfl
    exact (((h.setMeas _).setMeas _).raise _).addCause .undervolt

theorem badPeriod (h : GatesSafe s) : GatesSafe s.badPeriod :=
  ite (fun _ => (((h.setDmd _).setDmd _).raise _).addCause .demandLost) fun _ => h.setDmd _

theorem judgePeriod (h : GatesSafe s) (p : Nat) : GatesSafe (s.judgePeriod p) :=
  ite (fun _ => ite (fun _ => h.congr rfl) fun _ => h.congr rfl) fun _ => h.badPeriod

/-! ### Every command, and time -/

theorem whenDue {b : Bool} {after : State} (h : GatesSafe s) (e : whenDue b s after = .next t)
    (ha : b = true → GatesSafe after) : GatesSafe t := by
  obtain rfl | ⟨hb, rfl⟩ := eq_or_of_whenDue e
  · exact h
  · exact ha hb

theorem done {after : State} (e : done after = .next t) (ha : GatesSafe after) : GatesSafe t := by
  simp only [Machine.done, Host.Outcome.next.injEq] at e
  exact e ▸ ha

/-- A later byte keeps the invariant if what it does to the station does (R174). -/
theorem laterByte (h : GatesSafe s) {cmd : PortCommand} {effect : Transaction → State → State}
    (he : ∀ t u, GatesSafe u → GatesSafe (effect t u)) : GatesSafe (s.laterByte cmd effect) := by
  unfold State.laterByte
  split
  · exact ite (fun _ => he _ _ (h.congr rfl)) fun _ => h
  · exact h

theorem atByte (h : GatesSafe s) {n : Nat} {effect : Transaction → State → State} {x : Transaction}
    (he : GatesSafe (effect x s)) : GatesSafe (atByte n effect x s) :=
  ite (fun _ => he) fun _ => h

/-- The events: each by its own lemma, and those that leave the power stage alone. -/
theorem exec_event {c : Instr} (hc : c.isEvent = true) (h : GatesSafe s) (e : exec c s = .next t) : GatesSafe t := by
  cases c with
  | frameStart =>
    refine h.whenDue e fun _ => ite (fun _ => h.congr rfl) fun _ => ite (fun _ => ?_) fun _ => h.congr rfl
    exact alignedRise (h.congr rfl)
  | frameFallingEdge => exact h.whenDue e fun _ => ite (fun _ => h.followFall) fun _ => h.congr rfl
  | markClassified => exact h.whenDue e fun _ => h.classifyMark
  | ownEnd =>
    refine h.whenDue e fun _ => ite (fun _ => h.congr rfl) fun _ => ite (fun _ => ?_) fun _ => ?_
    · exact ite (fun _ => h.congr rfl) fun _ => h.congr (by simp [State.stage])
    · exact h.congr (by simp [State.stage])
  | stuck => exact h.whenDue e fun _ => ite (fun _ => h.congr rfl) fun _ => rejoin _ true
  | founding =>
    refine h.whenDue e fun hf => ?_
    simp only [State.foundingDue, Bool.and_eq_true, beq_iff_eq] at hf
    obtain ⟨hl, -⟩ := hf
    exact startCheck (h.congr rfl) hl
  | freeRunFrame =>
    exact h.whenDue e fun _ => ite (fun _ => h.congr (by simp [State.stage])) fun _ => h.congr rfl
  | bitTime sample => exact h.whenDue e fun _ => (h.setExch _).bitTime _ _
  | wordClose => exact h.whenDue e fun _ => h.closeWord
  | warmUpComplete =>
    refine h.whenDue e fun _ => ite (fun _ => ?_) fun _ => h.enterDecision .parked
    exact ((h.enterDecision .active).congr (State.swapAtFrameZero_stage _)).resumeLg
  | leadPoint => exact h.whenDue e fun _ => h.switchLgOff.congr rfl
  | onPoint =>
    refine done e (ite (fun ho => ?_) fun _ => ite (fun _ => ?_) fun _ => h)
    · obtain ⟨ha, -⟩ := State.onDue_iff.mp ho
      exact h.takeOnPoint ha
    · rw [State.takeOwedPoint_eq]; exact h.congr rfl
  | pulseEnd => exact h.whenDue e fun _ => h.endPulse.congr rfl
  | deadTimeRunOut =>
    refine h.whenDue e fun hl => ?_
    simp only [State.lgDue, Bool.and_eq_true, Bool.not_eq_true', beq_iff_eq, Option.isNone_iff_eq_none] at hl
    obtain ⟨⟨⟨⟨ha, hd⟩, -⟩, hhg⟩, -⟩ := hl
    exact h.turnLgOn ha hhg hd
  | currentTrigger => exact h.whenDue e fun _ => ite (fun _ => h.congr rfl) fun _ => h.congr rfl
  | ociAssert =>
    refine h.whenDue e fun _ => ite (fun _ => ?_) fun _ => ite (fun _ => h.congr rfl) fun _ => h.congr rfl
    exact cutByOci (h.congr rfl)
  | conversionComplete code =>
    refine h.whenDue e fun _ => ?_
    split
    · exact (h.takeResult _ _).congr rfl
    · exact h
  | dmdActiveEdge =>
    refine h.whenDue e fun _ => congr (s := if s.dmd.cond = .opened then _ else s) ?_ rfl
    exact ite (fun _ => (h.setDmd _).judgePeriod _) fun _ => h
  | dmdTimeout => exact h.whenDue e fun _ => (h.setDmd _).badPeriod
  | frmFirstQualifiedLevel high => exact h.whenDue e fun _ => ite (fun _ => h.congr rfl) fun _ => h.congr rfl
  | pullPoint | listenStuckDeclared | drivePoint | housekeepingPace | dmdInactiveEdge =>
    exact h.whenDue e fun _ => h.congr (by simp [State.stage])
  | _ => simp [Instr.isEvent] at hc

/-- The rows that are no events: RESET stops the station, and the port reaches the gates only through START, ASIDE and
CLEAR_FAULT. -/
theorem exec {c : Instr} (h : GatesSafe s) (e : exec c s = .next t) : GatesSafe t := by
  have hcommand : ∀ cmd r out, GatesSafe (s.commandByte cmd r out) := fun _ _ _ => h.congr (by simp [State.stage])
  have hsilent : ∀ cmd, GatesSafe (s.laterByte cmd noEffect) := fun _ => h.laterByte fun _ _ hu => hu
  cases c with
  | reset => exact done e (of_off ⟨rfl, rfl, rfl⟩)
  | resetRelease x low =>
    exact h.whenDue e fun _ => ite (fun _ => startStation (h.congr rfl)) fun _ => h.congr rfl
  | ident byte | readConfig byte | readRoster byte =>
    cases byte with
    | command => exact done e (hcommand _ _ _)
    | later sdi => exact done e (hsilent _)
  | writeConfig byte =>
    cases byte with
    | command => exact done e (hcommand _ _ _)
    | later sdi =>
      refine done e (h.laterByte fun _ _ hu => ?_)
      have hkept : ∀ x, GatesSafe (keepByte sdi x _) := fun _ => ite (fun _ => hu.congr rfl) fun _ => hu
      exact (hkept _).atByte (ite (fun _ => (hkept _).congr rfl) fun _ => hkept _)
  | start byte =>
    cases byte with
    | command => exact done e (hcommand _ _ _)
    | later sdi => exact done e (h.laterByte fun _ _ hu => hu.atByte hu.startStation)
  | readStatus byte | readHistory byte =>
    cases byte with
    | command => exact done e (ite (fun _ => h.congr rfl) fun _ => h)
    | later sdi => exact done e (h.laterByte fun _ _ hu => hu.atByte (hu.congr rfl))
  | aside byte =>
    cases byte with
    | command => exact done e (hcommand _ _ _)
    | later sdi =>
      exact done e (h.laterByte fun _ _ hu => hu.atByte (ite (fun _ => hu) fun _ => hu.addCause .commanded))
  | ret byte =>
    cases byte with
    | command => exact done e (hcommand _ _ _)
    | later sdi => exact done e (h.laterByte fun _ _ hu => hu.atByte (hu.congr rfl))
  | clearFault byte =>
    cases byte with
    | command => exact done e (hcommand _ _ _)
    | later sdi => exact done e (h.laterByte fun _ _ hu => hu.atByte (rejoin _ false))
  | unknown code byte =>
    cases byte with
    | command => exact done e (ite (fun _ => hcommand _ _ _) fun _ => h)
    | later sdi => exact done e (hsilent _)
  | transactionCut => exact h.whenDue e fun _ => h.congr rfl
  | _ => exact exec_event rfl h e

/-- One count switches no gate, and a dead-time timer that has run out stays so (R117). -/
theorem tick (h : GatesSafe s) : GatesSafe s.tick := by
  have ⟨hboth, hhg, hlg, hp, hd⟩ := h
  unfold State.tick
  rw [State.sampleShr_eq]
  exact ite (fun _ => ⟨hboth, hhg, hlg, hp, fun hg => congrArg (deadTimerTick s.dead) (hd hg)⟩) fun _ => h

theorem idle (h : GatesSafe s) : GatesSafe s.idle := by
  unfold State.idle
  split
  · exact h.tick
  · exact h.congr rfl
  · exact h.congr rfl

theorem step (h : GatesSafe s) (e : step s = .next t) : GatesSafe t := by
  unfold Machine.step at e
  split at e
  next c rest _ => exact exec (s := s.setPending rest) (h.congr rfl) e
  next => exact done e h.idle

end GatesSafe

end Sys2Proof.Machine

open Sys2Proof Sys2Proof.Machine

/-- Settles O55: each switch of a gate is safe by itself, and every row and the passing of time are made of them. -/
theorem gatesNeverConductTogether : Obligations.GatesNeverConductTogether := fun _ _ h e => h.step e
end

section
/-! ## The edges of the gates -/

namespace Sys2Proof.Machine

theorem exec_leadPoint_of_due {s : State} (h : s.leadDue = true) : exec .leadPoint s = .next (s.setGen s.gen.lead) :=
  whenDue_of_true h _ _

theorem exec_pulseEnd_of_due {s : State} (hp : s.gen.inFlight = true) (hhg : s.gen.hg = true)
    (hr : s.gen.remaining = 0) :
    exec .pulseEnd s = .next (s.setGen { s.gen.endPulse with ocRun := 0 }) :=
  whenDue_of_true (by simp [State.pulseEndDue, hp, hhg, hr]) _ _

theorem exec_deadTimeRunOut_of_due {s : State} (ha : s.ctl.state = .active) (hd : s.gen.deadTimer = none)
    (hw : s.gen.leadWindow = false) (hhg : s.gen.hg = false) (hlg : s.gen.lg = false) :
    exec .deadTimeRunOut s = .next (s.setGen { s.gen with lg := true }) :=
  whenDue_of_true (by simp [State.lgDue, ha, hd, hw, hhg, hlg]) _ _

/-- A pulse that ends with HG on and its duty run off restarts the dead time (R117, R120). -/
theorem PhaseGenerator.endPulse_of_whole {g : PhaseGenerator} (hhg : g.hg = true) (hr : g.remaining = 0) :
    g.endPulse = { g with hg := false, inFlight := false, deadTimer := some 0 } := by
  cases g
  simp_all [PhaseGenerator.endPulse, PhaseGenerator.switchHgOff]

end Sys2Proof.Machine

open Sys2Proof Sys2Proof.Machine

/-- Settles O31: the three rows, each where its condition holds. -/
theorem gateEdgesKeepTheDeadTime : Obligations.GateEdgesKeepTheDeadTime := by
  refine ⟨fun s p hon ha ht hc => ?_, fun s => ⟨fun hp hhg hr => ?_, fun ha hd hw hhg hlg => ?_⟩⟩
  · exact exec_leadPoint_of_due (State.leadDue_iff.mpr ⟨ha, ht, p, hon, hc⟩)
  · rw [exec_pulseEnd_of_due hp hhg hr, PhaseGenerator.endPulse_of_whole hhg hr]
    rfl
  · exact exec_deadTimeRunOut_of_due ha hd hw hhg hlg
end

section
/-! ## The pulse of an on-point -/

namespace Sys2Proof.Machine

namespace State

variable {s : State}

theorem resumeLg_of_leadWindow (hw : s.gen.leadWindow = true) : s.resumeLg = s := by
  unfold resumeLg
  split
  · rw [PhaseGenerator.resumeLg_of_leadWindow hw]; rfl
  · rfl

/-- HG on keeps LG as it is (R121). -/
theorem resumeLg_of_hg (hhg : s.gen.hg = true) : s.resumeLg = s := by
  rw [resumeLg_eq, hhg]
  simp [setGen]

/-- A due pulse in its lead window, with no refusal by OCI, starts (R119, R120). -/
theorem takeOnPoint_of_started (hw : s.gen.leadWindow = true) (hd : 8 ≤ s.latchedDuty) (hc : s.gen.clear = true)
    (ho : ¬s.gen.ociHigh = true) : s.takeOnPoint = s.setGen (s.gen.latch s.latchedDuty).startPulse := by
  have hpulse : (s.setGen (s.gen.latch s.latchedDuty)).takePulse
      = s.setGen (s.gen.latch s.latchedDuty).startPulse :=
    (if_pos ⟨hd, hc⟩).trans (if_neg ho)
  rw [takeOnPoint, resumeLg_of_leadWindow hw, hpulse]
  exact resumeLg_of_hg rfl

/-- One that OCI refuses before the run is complete is counted, and LG comes on (R121, R128, R129). -/
theorem takeOnPoint_of_counted (ha : s.ctl.state = .active) (hw : s.gen.leadWindow = true) (hd : 8 ≤ s.latchedDuty)
    (hc : s.gen.clear = true) (ho : s.gen.ociHigh = true) (hr : s.gen.ocRun + 1 < s.port.config.ocRun.toNat) :
    s.takeOnPoint = s.setGen { s.gen.latch s.latchedDuty with lg := true, ocRun := s.gen.ocRun + 1 } := by
  obtain ⟨hhg, hlg, htimer⟩ := PhaseGenerator.clear_iff.mp hc
  rw [takeOnPoint_of_refused hw hd hc ho, countTruncated_of_earlier (by simpa [PhaseGenerator.latch] using hr),
    resumeLg_eq]
  simp [setGen, PhaseGenerator.latch, ha, hhg, htimer]

end State

/-- A gate that is on, or a dead time that has not run out, is in the way of a pulse (R119). -/
theorem PhaseGenerator.clear_eq_false_iff {g : PhaseGenerator} :
    g.clear = false ↔ g.hg = true ∨ g.lg = true ∨ g.deadTimer ≠ none := by
  rw [Bool.eq_false_iff, ne_eq, PhaseGenerator.clear_iff]
  cases g.hg <;> cases g.lg <;> simp

end Sys2Proof.Machine

open Sys2Proof Sys2Proof.Machine

/-- Settles O32: the on-point with a pulse, without one, and with one that OCI refuses. -/
theorem onPointStartsThePulse : Obligations.OnPointStartsThePulse := by
  refine ⟨fun s p hp ha ht hc hd hhg hlg htimer hw hl => ?_, fun s p hp ha ht hc => ?_⟩
  · rw [exec_onPoint_of_due (State.onDue_iff.mpr ⟨ha, ht, hc ▸ hp⟩),
      State.takeOnPoint_of_started hw hd (PhaseGenerator.clear_iff.mpr ⟨hhg, hlg, htimer⟩)
        fun h => hl (PhaseGenerator.ociHigh_iff.mp h)]
    rfl
  · intro target duty latched
    rw [exec_onPoint_of_due (State.onDue_iff.mpr ⟨ha, ht, hc ▸ hp⟩)]
    refine ⟨fun hno => ?_, fun hd hhg hlg htimer hw hl hr => ?_⟩
    · have hnone : s.latchedDuty < 8 ∨ s.gen.clear = false ∨ s.gen.leadWindow = false := by
        obtain hd | hhg | hlg | htimer | hw := hno
        · exact .inl hd
        · exact .inr (.inl (PhaseGenerator.clear_eq_false_iff.mpr (.inl hhg)))
        · exact .inr (.inl (PhaseGenerator.clear_eq_false_iff.mpr (.inr (.inl hlg))))
        · exact .inr (.inl (PhaseGenerator.clear_eq_false_iff.mpr (.inr (.inr htimer))))
        · exact .inr (.inr hw)
      rw [State.takeOnPoint_of_no_pulse s ha hnone]
      simp [PhaseGenerator.resumeLg, PhaseGenerator.latch, State.setGen, latched, duty, target, State.latchedDuty,
        State.target]
    · rw [State.takeOnPoint_of_counted ha hw hd (PhaseGenerator.clear_iff.mpr ⟨hhg, hlg, htimer⟩)
        (PhaseGenerator.ociHigh_iff.mpr hl) hr]
      rfl
end

section
/-! ## The pulse that OCI meets -/

namespace Sys2Proof.Machine

/-- Neither a pulse nor one owed: only the level is set (R127). -/
theorem exec_ociAssert_of_none_met {s : State} (hs : s.started = true) (hl : s.gen.oci.level = some false)
    (hp : s.gen.inFlight = false) (ho : s.cutOwed = false) :
    exec .ociAssert s = .next (s.setGen { s.gen with oci := Filter.settle 2 true }) := by
  rw [exec_ociAssert]
  simp [State.ociCan, hs, hl, hp, ho]

theorem State.cutByOci_of_not_active {s : State} (ha : s.ctl.state ≠ .active) :
    s.cutByOci = s.setGen s.gen.endPulse :=
  if_neg ha

end Sys2Proof.Machine

open Sys2Proof Sys2Proof.Machine

/-- Settles O34: OCI with no pulse to meet, with one outside ACTIVE, and with one whose frame is counted. -/
theorem ociAssertCutsThePulse : Obligations.OciAssertCutsThePulse := by
  intro s hs hl high off
  refine ⟨fun hp ho => ?_, fun hp ha => ?_, fun hp ha hr => ?_⟩
  · have howed : s.cutOwed = false := by rcases ho with h | h <;> simp [State.cutOwed, h]
    exact exec_ociAssert_of_none_met hs hl hp howed
  · rw [exec_ociAssert_of_pulse hs hl hp, State.cutByOci_of_not_active (by exact ha)]
    rfl
  · rw [exec_ociAssert_of_pulse hs hl hp, State.cutByOci_of_active (by exact ha),
      State.countTruncated_of_earlier (by exact Nat.not_le.mpr hr)]
    rfl
end

section
/-! ## The trigger of a current conversion -/

namespace Sys2Proof.Machine

theorem exec_currentTrigger_of_due {s : State} (hp : s.gen.inFlight = true) (ht : s.gen.triggered = false)
    (hc : s.gen.remaining + s.gen.pulseDuty / 2 = s.gen.pulseDuty) :
    exec .currentTrigger s
      = .next
        (if s.triggerAsks then (s.setGen { s.gen with triggered := true }).setMeas s.meas.requestCurrent
         else s.setGen { s.gen with triggered := true }) :=
  whenDue_of_true (by simp [State.triggerDue, hp, ht, hc]) _ _

theorem State.triggerAsks_iff {s : State} : s.triggerAsks = true ↔ 16 ≤ s.gen.pulseDuty ∧ s.ctl.state = .active := by
  simp [State.triggerAsks]

/-- A current conversion in progress drops the request (R142). -/
theorem MeasurementUnit.requestCurrent_of_isns {m : MeasurementUnit} {c : Conversion} (hc : m.conv = some c)
    (hch : c.channel = .isns) : m.requestCurrent = m := by
  simp [MeasurementUnit.requestCurrent, hc, hch]

/-- An idle converter, or one with a housekeeping conversion, takes it (R141). -/
theorem MeasurementUnit.requestCurrent_of_not_isns {m : MeasurementUnit}
    (h : ∀ c, m.conv = some c → c.channel ≠ .isns) :
    m.requestCurrent = { m with conv := some (Conversion.begin .isns) } := by
  unfold MeasurementUnit.requestCurrent
  split
  next c hc => exact if_neg (h c hc)
  next => rfl

end Sys2Proof.Machine

open Sys2Proof Sys2Proof.Machine

/-- Settles O36: a request taken, dropped, and not made. -/
theorem currentTriggerAsksTheConverter : Obligations.CurrentTriggerAsksTheConverter := by
  intro s hp ht hc taken asks
  rw [exec_currentTrigger_of_due hp ht hc]
  refine ⟨fun ha hidle => ?_, fun ha hbusy => ?_, fun ha => ?_⟩
  · rw [if_pos (State.triggerAsks_iff.mpr ha), MeasurementUnit.requestCurrent_of_not_isns hidle]
    rfl
  · obtain ⟨c, hconv, hch⟩ := hbusy
    rw [if_pos (State.triggerAsks_iff.mpr ha), MeasurementUnit.requestCurrent_of_isns hconv hch]
    rfl
  · rw [if_neg fun h => ha (State.triggerAsks_iff.mp h)]
    rfl
end

section
/-! ## A current request during a current conversion -/

open Sys2Proof Sys2Proof.Machine

/-- Settles O33: the trigger is taken, and the measurement unit is as it was. -/
theorem currentRequestDuringACurrentConversionIsDropped :
    Obligations.CurrentRequestDuringACurrentConversionIsDropped := by
  intro s c hp ht hc hd ha hconv hch
  rw [exec_currentTrigger_of_due hp ht hc, if_pos (State.triggerAsks_iff.mpr ⟨hd, ha⟩),
    MeasurementUnit.requestCurrent_of_isns hconv hch]
  rfl
end

section
/-! ## The trim and the share value at a word close -/

namespace Sys2Proof.Machine

/-! ### The trim -/

/-- A damaged word, or one in which the station did not contend, leaves the trim (R145). -/
theorem nextTrim_of_silent (c : ConfigRecord) (trim : Nat) {e : ExchangeUnit}
    (h : e.damaged = true ∨ e.current.contended = false) : nextTrim c trim e.record = trim := by
  obtain h | h := h <;> simp [nextTrim, ExchangeUnit.record, h]

/-- A contender with a share of its own lowers the trim if it has won, and raises it if the maximum passes its share by
more than SHARE_BAND (R145). -/
theorem nextTrim_of_contended (c : ConfigRecord) (trim : Nat) {e : ExchangeUnit} {own : Reading}
    (hd : e.damaged = false) (hc : e.current.contended = true) (hv : e.current.value = some own) :
    nextTrim c trim e.record
      = if e.current.contending then trim - c.trimStep.toNat
        else if own.toNat + c.shareBand.toNat < (fieldResult 10 e.current.bits).toNat then
          min c.trimLimit.toNat (trim + c.trimStep.toNat)
        else trim := by
  simp [nextTrim, ExchangeUnit.record, hd, hc, hv]

/-- No close carries the trim past TRIM_LIMIT (R145). -/
theorem nextTrim_le {c : ConfigRecord} {trim : Nat} (r : WordRecord) (h : trim ≤ c.trimLimit.toNat) :
    nextTrim c trim r ≤ c.trimLimit.toNat := by
  unfold nextTrim
  split
  · split
    · exact (Nat.sub_le _ _).trans h
    · split
      · exact Nat.min_le_left _ _
      · exact h
  · exact h

namespace State

variable {s : State}

/-- The trim after a close in ACTIVE with the record `r` (R145). -/
def trimAfter (s : State) (r : WordRecord) : Nat := nextTrim s.port.config s.meas.trim r

/-- The share-limit run at a close that leaves the trim `trim`, before its restart at 8 (R147). -/
def limitRunAt (s : State) (trim : Nat) : Nat :=
  if trim = s.port.config.trimLimit.toNat then s.meas.limitRun + 1 else 0

theorem closeTrim_of_not_active (ha : s.ctl.state ≠ .active) (r : WordRecord) : s.closeTrim r = s := if_neg ha

/-- The trim of a close in ACTIVE, and the share-limit run, which restarts at 8 (R145, R147). -/
theorem closeTrim_of_active (ha : s.ctl.state = .active) (r : WordRecord) :
    s.closeTrim r
      = (s.setMeas
          { s.meas with
            trim := s.trimAfter r
            limitRun := if 8 ≤ s.limitRunAt (s.trimAfter r) then 0 else s.limitRunAt (s.trimAfter r) }).raiseIf
          (8 ≤ s.limitRunAt (s.trimAfter r)) .shareLimit :=
  if_pos ha

/-- The trim leaves what the share value is made from. -/
theorem closeTrim_share (s : State) (r : WordRecord) :
    (s.closeTrim r).meas.accSum = s.meas.accSum ∧ (s.closeTrim r).meas.accCount = s.meas.accCount
      ∧ (s.closeTrim r).meas.wholeWord = s.meas.wholeWord ∧ (s.closeTrim r).meas.lastMax = s.meas.lastMax := by
  by_cases ha : s.ctl.state = .active
  · simp [closeTrim_of_active ha]
  · simp [closeTrim_of_not_active ha]

/-! ### The other parts of the close -/

/-- The state decision touches the measurement unit where it declares DUPLICATE in CHECK (R71, R89). -/
theorem closeState_meas_cases (s : State) (b : Bool) :
    (s.closeState b).meas = s.meas
      ∨ s.ctl.state = .check
        ∧ (s.closeState b).meas = { s.meas.leaveActive with pace := Timer.stopped, freeFrames := 0 } := by
  obtain ⟨hc, h⟩ | ⟨r, d, run, hold, -, h⟩ := s.closeState_cases b
  · exact .inr ⟨hc, by rw [h, enterFault_meas]⟩
  · exact .inl (by rw [h]; rfl)

theorem closeState_meas_of_not_check (hs : s.ctl.state ≠ .check) (b : Bool) : (s.closeState b).meas = s.meas :=
  (s.closeState_meas_cases b).resolve_right fun h => hs h.1

@[simp] theorem censusClose_meas (s : State) : s.censusClose.meas = s.meas := by simp [censusClose]

/-- Housekeeping moves the converter, the queue and the tally (R137, R139). -/
theorem stepTally_meas (s : State) :
    ∃ conv queue tally, s.stepTally.meas = { s.meas with conv := conv, queue := queue, tally := tally } := by
  obtain hlt | hle := Nat.lt_or_ge (s.meas.tally + 1) s.port.config.hkWords.toNat
  · rw [stepTally_of_lt hlt]; exact ⟨_, _, _, rfl⟩
  · rw [stepTally_of_le hle]; exact ⟨_, _, _, rfl⟩

/-- The state after the state decision of a close (R47). -/
def judgedClose (s : State) : State := s.censusClose.closeState s.exch.damaged

theorem judgedClose_meas_of_not_check (hs : s.ctl.state ≠ .check) : s.judgedClose.meas = s.meas := by
  rw [judgedClose, closeState_meas_of_not_check (by simpa using hs), censusClose_meas]

/-- In every state the decision leaves the accumulator and the last current max, and raises nothing that an exit from
ACTIVE clears (R143, R144, R146, R147). -/
theorem judgedClose_meas (s : State) :
    s.judgedClose.meas.accSum = s.meas.accSum ∧ s.judgedClose.meas.accCount = s.meas.accCount
      ∧ s.judgedClose.meas.lastMax = s.meas.lastMax
      ∧ (s.meas.wholeWord = false → s.judgedClose.meas.wholeWord = false)
      ∧ (s.meas.trim = 0 → s.judgedClose.meas.trim = 0)
      ∧ (s.meas.limitRun = 0 → s.judgedClose.meas.limitRun = 0) := by
  unfold judgedClose
  obtain h | ⟨-, h⟩ := s.censusClose.closeState_meas_cases s.exch.damaged <;>
    simp [h, MeasurementUnit.leaveActive]

/-- No close brings a station to ACTIVE or takes it out (R78). -/
theorem judgedClose_active_iff (s : State) : s.judgedClose.ctl.state = .active ↔ s.ctl.state = .active := by
  unfold judgedClose
  obtain ⟨hc, h⟩ | ⟨r, d, run, hold, -, h⟩ := s.censusClose.closeState_cases s.exch.damaged
  · have hs : s.ctl.state = .check := by simpa using hc
    simp [h, enterFault_ctl, hs]
  · simp [h]

@[simp] theorem judgedClose_config (s : State) : s.judgedClose.port.config = s.port.config := by simp [judgedClose]

theorem judgedClose_limitRunAt (hs : s.ctl.state ≠ .check) (trim : Nat) :
    s.judgedClose.limitRunAt trim = s.limitRunAt trim := by
  simp [limitRunAt, judgedClose_meas_of_not_check hs]

theorem judgedClose_trimAfter (hs : s.ctl.state ≠ .check) (r : WordRecord) :
    s.judgedClose.trimAfter r = s.trimAfter r := by
  simp [trimAfter, judgedClose_meas_of_not_check hs]

/-- What a close makes of the share side of the measurement unit, from the state after its decision (R143, R144, R145,
R147). -/
theorem closeWord_share (s : State) :
    s.closeWord.meas.trim = (s.judgedClose.closeTrim s.exch.record).meas.trim
      ∧ s.closeWord.meas.limitRun = (s.judgedClose.closeTrim s.exch.record).meas.limitRun
      ∧ s.closeWord.meas.share = shareOf s.judgedClose.meas.accSum s.judgedClose.meas.accCount
      ∧ s.closeWord.meas.accSum = 0 ∧ s.closeWord.meas.accCount = 0
      ∧ s.closeWord.meas.shareValid = s.judgedClose.meas.wholeWord
      ∧ s.closeWord.meas.wholeWord = s.judgedClose.meas.wholeWord
      ∧ s.closeWord.meas.lastMax = s.exch.record.currentMax.getD s.judgedClose.meas.lastMax := by
  obtain ⟨hsum, hcount, hwhole, hmax⟩ := s.judgedClose.closeTrim_share s.exch.record
  obtain ⟨conv, queue, tally, h⟩ :=
    ((s.judgedClose.closeTrim s.exch.record).closeShare s.exch.record).stepTally_meas
  have hclose : s.closeWord.meas
      = { ((s.judgedClose.closeTrim s.exch.record).closeShare s.exch.record).meas with
          conv := conv, queue := queue, tally := tally } := h
  rw [hclose]
  simp [closeShare, hsum, hcount, hwhole, hmax]

/-- In ACTIVE the trim and the run are those of the close's own record. -/
theorem closeWord_trim_of_active (ha : s.ctl.state = .active) :
    s.closeWord.meas.trim = s.trimAfter s.exch.record
      ∧ s.closeWord.meas.limitRun
        = if 8 ≤ s.limitRunAt s.closeWord.meas.trim then 0 else s.limitRunAt s.closeWord.meas.trim := by
  obtain ⟨htrim, hrun, -⟩ := s.closeWord_share
  have hs : s.ctl.state ≠ .check := by simp [ha]
  have hclosed := closeTrim_of_active (s.judgedClose_active_iff.mpr ha) s.exch.record
  simp only [judgedClose_limitRunAt hs, judgedClose_trimAfter hs] at hclosed
  have ht : s.closeWord.meas.trim = s.trimAfter s.exch.record := by simp [htrim, hclosed]
  exact ⟨ht, by rw [ht, hrun, hclosed, raiseIf_meas]; rfl⟩

/-- The eighth close in a row at TRIM_LIMIT sets SHARE_LIMIT (R147). -/
theorem closeWord_shareLimit (ha : s.ctl.state = .active) (hr : 8 ≤ s.limitRunAt s.closeWord.meas.trim) :
    s.closeWord.flagSet .shareLimit = true := by
  obtain ⟨ht, -⟩ := closeWord_trim_of_active ha
  have hs : s.ctl.state ≠ .check := by simp [ha]
  have hraised : (s.judgedClose.closeTrim s.exch.record).flagSet .shareLimit = true := by
    rw [closeTrim_of_active (s.judgedClose_active_iff.mpr ha), judgedClose_trimAfter hs, judgedClose_limitRunAt hs,
      ← ht, decide_eq_true hr]
    exact (raise_flagSet _ .shareLimit .shareLimit).trans (by simp)
  have hshare : ∀ (u : State) r, u.FlagsStand (u.closeShare r) := fun _ _ => .of_flags rfl
  exact (((hshare _ _).trans (.stepTally _)).trans (.of_flags (closeHistory_flags _ _))) _ hraised

end State

end Sys2Proof.Machine

open Sys2Proof Sys2Proof.Machine

/-- Settles O29: in ACTIVE by the record of the word, elsewhere by what the state decision leaves. -/
theorem wordCloseTrimsTheShare : Obligations.WordCloseTrimsTheShare := by
  intro s ht ho hd c step top
  obtain ⟨htrim, hrun, hshare, hsum, hcount, hvalid, hwhole, hmax⟩ := s.closeWord_share
  obtain ⟨hsum', hcount', hmax', hwhole', htrim', hrun'⟩ := s.judgedClose_meas
  have hrests (ha : s.ctl.state ≠ .active) : s.judgedClose.closeTrim s.exch.record = s.judgedClose :=
    State.closeTrim_of_not_active (fun h => ha (s.judgedClose_active_iff.mp h)) _
  refine ⟨s.closeWord, exec_wordClose_of_due ht ho hd, fun ha => ?active, fun ha hc => ?elsewhere,
    fun ha h0 h0' => ?zero, ?_, hsum, hcount, fun hc => ?valid, fun h => ?_, ?max⟩
  case active =>
    obtain ⟨hnext, hnext'⟩ := State.closeWord_trim_of_active ha
    refine ⟨fun own hu hcon hv => ?_, fun hsilent => ?_, fun hne => ?_, fun heq hlt => ?_, fun heq h7 => ?_⟩
    · rw [hnext, State.trimAfter, nextTrim_of_contended _ _ hu hcon hv]
    · rw [hnext, State.trimAfter, nextTrim_of_silent _ _ hsilent]
    · rw [hnext', State.limitRunAt, if_neg hne]; rfl
    · rw [hnext', State.limitRunAt, if_pos heq, if_neg (by omega)]
    · have hfull : 8 ≤ s.limitRunAt s.closeWord.meas.trim := by rw [State.limitRunAt, if_pos heq, h7]
      exact ⟨by rw [hnext', if_pos hfull], State.closeWord_shareLimit ha hfull⟩
  case elsewhere =>
    rw [htrim, hrun, hrests ha, State.judgedClose_meas_of_not_check hc]
    exact ⟨rfl, rfl⟩
  case zero =>
    rw [htrim, hrun, hrests ha]
    exact ⟨htrim' h0, hrun' h0'⟩
  case valid =>
    rw [hvalid, hwhole, State.judgedClose_meas_of_not_check hc]
    exact ⟨rfl, rfl⟩
  case max =>
    rw [hmax, hmax']
    cases hdam : s.exch.damaged <;> simp [ExchangeUnit.record, hdam]
  · rw [hshare, hsum', hcount']; rfl
  · rw [hvalid, hwhole]
    exact ⟨hwhole' h, hwhole' h⟩
end

section
/-! ## The share trim and the converter, in every step -/

namespace Sys2Proof.Machine

/-! ### What the two invariants read -/

/-- What `ShareFits` reads: the trim, share-valid, the whole-word flag and the share-limit run, the station's state and
TRIM_LIMIT. -/
def State.trimming (s : State) : (Nat × Bool × Bool × Nat) × StationState × Byte :=
  ((s.meas.trim, s.meas.shareValid, s.meas.wholeWord, s.meas.limitRun), s.ctl.state, s.port.config.trimLimit)

/-- What `ConverterFits` reads: the channel being converted, and the queue. -/
def State.line (s : State) : Option Channel × List Channel := (s.meas.conv.map Conversion.channel, s.meas.queue)

/-- What an exit from ACTIVE leaves of the share trim (R143, R146, R147). -/
def MeasurementUnit.Untrimmed (m : MeasurementUnit) : Prop :=
  m.trim = 0 ∧ m.shareValid = false ∧ m.wholeWord = false ∧ m.limitRun = 0

theorem MeasurementUnit.leaveActive_untrimmed (m : MeasurementUnit) : m.leaveActive.Untrimmed :=
  ⟨rfl, rfl, rfl, rfl⟩

theorem ShareFits.congr {s t : State} (h : ShareFits s) (ht : t.trimming = s.trimming) : ShareFits t := by
  simp only [State.trimming, Prod.mk.injEq] at ht
  obtain ⟨⟨htrim, hvalid, hwhole, hrun⟩, hstate, hlimit⟩ := ht
  simpa only [ShareFits, htrim, hvalid, hwhole, hrun, hstate, hlimit] using h

theorem ShareFits.of_untrimmed {t : State} (h : t.meas.Untrimmed) : ShareFits t := by
  have ⟨htrim, _, _, hrun⟩ := h
  exact ⟨fun _ => h, by omega, by omega⟩

theorem ShareFits.of_active {t : State} (ha : t.ctl.state = .active)
    (ht : t.meas.trim ≤ t.port.config.trimLimit.toNat) (hr : t.meas.limitRun < 8) : ShareFits t :=
  ⟨fun hne => absurd ha hne, ht, hr⟩

theorem ConverterFits.congr {s t : State} (h : ConverterFits s) (hl : t.line = s.line) : ConverterFits t := by
  simp only [State.line, Prod.mk.injEq] at hl
  obtain ⟨hconv, hqueue⟩ := hl
  obtain ⟨hnodup, hisns, hidle, hhead⟩ := h
  rw [← hqueue] at hnodup hisns
  refine ⟨hnodup, hisns, fun hn => ?idle, fun c hc => ?head⟩
  case idle =>
    rw [hn, Option.map_none, eq_comm, Option.map_eq_none_iff] at hconv
    exact hqueue.trans (hidle hconv)
  case head =>
    rw [hc, Option.map_some, eq_comm, Option.map_eq_some_iff] at hconv
    obtain ⟨d, hd, hch⟩ := hconv
    rw [hqueue, ← hch]
    exact hhead d hd

/-! ### The moves of the converter -/

/-- The queue of a converter at work, whatever it converts next (R136, R139). -/
theorem ConverterFits.startNext {s : State} {m : MeasurementUnit} (hn : m.queue.Nodup) (hi : Channel.isns ∉ m.queue)
    (hh : ∀ c, m.conv = some c → c.channel = .isns ∨ m.queue.head? = some c.channel) (hm : s.meas = m.startNext) :
    ConverterFits s := by
  rw [MeasurementUnit.startNext_eq] at hm
  unfold ConverterFits
  rw [hm]
  refine ⟨hn, hi, fun hnone => ?idle, fun c hc => ?head⟩
  case idle =>
    cases hconv : m.conv with
    | some c => simp [hconv] at hnone
    | none => simpa [hconv] using hnone
  case head =>
    cases hconv : m.conv with
    | some d =>
      obtain rfl : d = c := by simpa [hconv] using hc
      exact hh d hconv
    | none =>
      obtain ⟨ch, hch, rfl⟩ : ∃ ch, m.queue.head? = some ch ∧ Conversion.begin ch = c := by
        simpa [hconv] using hc
      exact .inr hch

/-- A request appends what is not queued, behind the conversion in progress (R139, R140). -/
theorem ConverterFits.request {s : State} (h : ConverterFits s) : ConverterFits (s.setMeas s.meas.request) := by
  obtain ⟨hnodup, hisns, hidle, hhead⟩ := h
  refine startNext ?nodup ?isns (fun c hc => ?head) rfl
  case nodup =>
    refine List.Nodup.append hnodup ((by decide : [Channel.tsns, Channel.vsns].Nodup).filter _) ?_
    intro ch hq hf
    simp [hq] at hf
  case isns => simp [hisns]
  case head =>
    refine (hhead c hc).imp_right fun hq => ?_
    rw [List.head?_append, hq]
    rfl

theorem ConverterFits.stepTally {s : State} (h : ConverterFits s) : ConverterFits s.stepTally := by
  unfold State.stepTally
  split
  · exact h.request.congr (by simp [State.line, MeasurementUnit.request, MeasurementUnit.startNext_eq])
  · exact h.congr rfl

/-- A current conversion may take the converter at any time; a housekeeping entry stays at the head (R141). -/
theorem ConverterFits.requestCurrent {s : State} (h : ConverterFits s) :
    ConverterFits (s.setMeas s.meas.requestCurrent) := by
  by_cases hc : ∀ c, s.meas.conv = some c → c.channel ≠ .isns
  · rw [MeasurementUnit.requestCurrent_of_not_isns hc]
    obtain ⟨hnodup, hisns, -, -⟩ := h
    exact ⟨hnodup, hisns, nofun, fun c hconv => .inl (by rw [← Option.some.inj hconv]; rfl)⟩
  · push Not at hc
    obtain ⟨c, hconv, hch⟩ := hc
    rw [MeasurementUnit.requestCurrent_of_isns hconv hch]
    exact h

end Sys2Proof.Machine
end

section
/-! ## The rows that leave the converter at its work -/

namespace Sys2Proof.Machine

/-- From `b` to `s` the share trim still fits, and the converter and its queue are as they were. -/
structure State.Steady (b s : State) : Prop where
  share : ShareFits b → ShareFits s
  line : s.line = b.line

/-- The conversion in progress at a rejoin completes (R33, R135). -/
theorem State.rejoin_line (s : State) (x : Bool) : (s.rejoin x).line = s.line := by
  simp only [State.line, State.rejoin_meas, MeasurementUnit.rejoin, Option.map_map]
  rfl

theorem State.tick_line (s : State) : s.tick.line = s.line := by
  unfold State.tick
  split
  · simp only [State.line, State.setPort_meas, State.setDmd_meas, State.setMeas_meas, MeasurementUnit.tick,
      Option.map_map]
    rfl
  · rfl

theorem State.tick_trimming (s : State) : s.tick.trimming = s.trimming := by
  unfold State.tick
  rw [State.sampleShr_eq]
  split <;> rfl

theorem State.counted_trimming (s : State) (i : Fin 30) : (s.counted i).trimming = s.trimming := by
  rw [State.counted_eq]
  simp only [State.trimming]
  split <;> rfl

theorem State.counted_line (s : State) (i : Fin 30) : (s.counted i).line = s.line := by rw [State.counted_eq]; rfl

namespace State.Steady

variable {b s t : State}

theorem refl (s : State) : s.Steady s := ⟨id, rfl⟩

theorem congr (h : b.Steady s) (ht : t.trimming = s.trimming) (hl : t.line = s.line) : b.Steady t :=
  ⟨fun hb => (h.share hb).congr ht, hl.trans h.line⟩

/-- An exit from ACTIVE (R143, R146, R147). -/
theorem untrimmed (h : b.Steady s) (hm : t.meas.Untrimmed) (hl : t.line = s.line) : b.Steady t :=
  ⟨fun _ => .of_untrimmed hm, hl.trans h.line⟩

/-- A step of a station outside ACTIVE that brings it no trim. -/
theorem outside (h : b.Steady s) (hs : s.ctl.state ≠ .active) (hm : s.meas.Untrimmed → t.meas.Untrimmed)
    (hl : t.line = s.line) : b.Steady t :=
  ⟨fun hb => .of_untrimmed (hm ((h.share hb).1 hs)), hl.trans h.line⟩

/-- An entry to ACTIVE, or a frame 0 start in it (R112, R143). -/
theorem active (h : b.Steady s) (ha : t.ctl.state = .active)
    (hm : (t.meas.trim, t.meas.limitRun, t.port.config.trimLimit)
      = (s.meas.trim, s.meas.limitRun, s.port.config.trimLimit)) (hl : t.line = s.line) : b.Steady t := by
  refine ⟨fun hb => ?_, hl.trans h.line⟩
  simp only [Prod.mk.injEq] at hm
  obtain ⟨htrim, hrun, hlimit⟩ := hm
  obtain ⟨-, hle, hlt⟩ := h.share hb
  exact .of_active ha (by rwa [htrim, hlimit]) (by rwa [hrun])

theorem ite {c : Prop} [Decidable c] (ht : c → b.Steady t) (hs : ¬c → b.Steady s) :
    b.Steady (if c then t else s) :=
  iteInduction (motive := b.Steady) ht hs

section
variable (h : b.Steady s)
include h

theorem setFrame (f : FrameUnit) : b.Steady (s.setFrame f) := h.congr rfl rfl
theorem setExch (e : ExchangeUnit) : b.Steady (s.setExch e) := h.congr rfl rfl
theorem setGen (g : PhaseGenerator) : b.Steady (s.setGen g) := h.congr rfl rfl
theorem setDmd (d : DemandMonitor) : b.Steady (s.setDmd d) := h.congr rfl rfl
theorem raise (f : Flag) : b.Steady (s.raise f) := h.congr rfl rfl
theorem resumeLg : b.Steady s.resumeLg := h.congr (by simp [State.trimming]) (by simp [State.line])

/-! ### The station controller -/

theorem enterAside : b.Steady s.enterAside := h.untrimmed s.meas.leaveActive_untrimmed rfl
theorem enterFault (c : FaultCause) (n : Nat) : b.Steady (s.enterFault c n) :=
  h.untrimmed (by rw [State.enterFault_meas]; exact s.meas.leaveActive_untrimmed)
    (by rw [State.line, State.enterFault_meas]; rfl)
theorem enterHold : b.Steady s.enterHold := h.untrimmed s.meas.leaveActive_untrimmed rfl
theorem rejoin (x : Bool) : b.Steady (s.rejoin x) := h.untrimmed s.meas.leaveActive_untrimmed (s.rejoin_line x)

theorem addCause (c : AsideCause) : b.Steady (s.addCause c) := by
  have hadded : b.Steady (s.setCtl { s.ctl with causes := s.ctl.causes.add c }) := h.congr rfl rfl
  exact ite (fun _ => hadded.enterAside) fun _ => ite (fun _ => h.congr rfl rfl) fun _ => hadded

theorem declareFault (c : FaultCause) : b.Steady (s.declareFault c) := by
  unfold State.declareFault
  split
  · exact h
  · exact ite (fun _ => (h.setFrame _).enterFault c 0) fun _ => h
  · exact h.raise _
  · exact h.enterFault c _

theorem readHalt : b.Steady s.readHalt := by
  unfold State.readHalt
  dsimp only
  split
  iterate 4 exact (h.raise _).enterHold
  next hs => exact (h.raise _).congr rfl rfl
  next => exact h.raise _

theorem enterDecision (d : Decision) : b.Steady (s.enterDecision d) := by
  cases d with
  | active => exact h.active rfl rfl rfl
  | check | shed | parked | warming =>
    refine h.untrimmed ?_ ?_
    · rw [State.enterDecision_meas]; exact s.meas.leaveActive_untrimmed
    · rw [State.line, State.enterDecision_meas]; rfl

theorem takeDecided : b.Steady s.takeDecided := by
  unfold State.takeDecided
  split
  · exact h.enterDecision _
  · exact h

/-- A frame 0 start marks a whole word in ACTIVE alone (R143). -/
theorem swapSchedule : b.Steady s.swapSchedule := by
  by_cases ha : s.ctl.state = .active
  · exact h.active ha rfl rfl
  · exact h.congr (by simp [State.trimming, State.swapSchedule, ha]) rfl

/-- The entry to CHECK is from LISTEN (R58, R82, R85). -/
theorem startCheck (hl : s.ctl.state = .listen) : b.Steady s.startCheck := by
  refine h.outside (by simp [hl]) (fun hm => ?_) ?_
  · rw [State.startCheck_meas]
    exact iteInduction (motive := MeasurementUnit.Untrimmed) (fun _ => hm) fun _ => s.meas.leaveActive_untrimmed
  · simp only [State.line, State.startCheck_meas]
    split <;> rfl

theorem startStation : b.Steady s.startStation :=
  ite (fun hs => h.outside (by simp [hs]) id rfl) fun _ => h

/-- The state decision of a close (R71). -/
theorem closeState (x : Bool) : b.Steady (s.closeState x) := by
  obtain ⟨-, hf⟩ | ⟨r, d, run, hold, -, hk⟩ := s.closeState_cases x
  · rw [hf]; exact h.enterFault _ _
  · rw [hk]; exact h.congr rfl rfl

/-! ### The bits of the word and the frame line -/

theorem enterBit (i : Nat) (r : ReadBit) : b.Steady (s.enterBit i r) := by
  refine ite (fun _ => ite (fun _ => h.setExch _) fun _ => (h.setExch _).readHalt) fun _ =>
    ite (fun _ => ?_) fun _ => ite (fun _ => h.setExch _) fun _ => h.setExch _
  exact ite (fun _ => h.setExch _) fun _ => ite (fun _ => h.declareFault .duplicate) fun _ => h

theorem bitTime (i : Nat) (r : ReadBit) : b.Steady (s.bitTime i r) := (h.setExch _).enterBit i r

theorem judgeCutFrame : b.Steady s.judgeCutFrame := ite (fun _ => h.bitTime _ _) fun _ => h

theorem wordStart (first : Bool) : b.Steady (s.wordStart first) :=
  ite (fun _ => swapSchedule (h.takeDecided.congr rfl rfl)) fun _ => h.congr rfl rfl

theorem startFrame (i : Fin 30) : b.Steady (s.startFrame i) := by
  rw [State.startFrame_eq]
  exact ((h.congr (s.counted_trimming i) (s.counted_line i)).wordStart _).resumeLg

theorem riseTail : b.Steady s.riseTail := by
  unfold State.riseTail
  split
  · exact ite (fun _ => h.congr rfl rfl) fun _ => h.startFrame _
  · exact h

theorem markError : b.Steady s.markError := by
  have hnoted : b.Steady s.noteMarkError := h.congr rfl rfl
  rw [State.markError_eq]
  exact ite (fun _ => hnoted.rejoin false) fun _ => hnoted

theorem classifyNormal : b.Steady s.classifyNormal :=
  ite (fun _ => (h.setFrame _).markError) fun _ => h.setFrame _

theorem classifyMark : b.Steady s.classifyMark := by
  have hmarked : b.Steady s.marked := h.setFrame _
  rw [State.classifyMark_eq]
  refine ite (fun hl => ite (fun _ => ?_) fun _ => hmarked) fun _ => ite (fun _ => hmarked.markError) fun _ => hmarked
  exact ((hmarked.setFrame _).setExch _).startCheck hl

theorem fall : b.Steady s.fall := by
  have hfallen : b.Steady s.fallen := h.congr (by rw [State.fallen_eq]; rfl) (by rw [State.fallen_eq]; rfl)
  have hjudged : b.Steady s.judgedFall := ite (fun _ => hfallen.classifyNormal) fun _ => hfallen
  rw [State.fall_eq]
  exact ite (fun _ => hjudged.setFrame _) fun _ => hjudged

theorem followFall : b.Steady s.followFall := ite (fun _ => h.classifyMark.fall) fun _ => h.fall

theorem startStuck : b.Steady s.startStuck := ite (fun _ => h.setFrame _) fun _ => h

/-! ### The phase generator and the demand monitor -/

theorem countTruncated : b.Steady s.countTruncated :=
  ite (fun _ => (h.setGen _).declareFault .overcurrent) fun _ => h.setGen _

theorem takePulse : b.Steady s.takePulse :=
  ite (fun _ => ite (fun _ => h.countTruncated) fun _ => h.setGen _) fun _ => h

theorem takeOnPoint : b.Steady s.takeOnPoint := (h.resumeLg.setGen _).takePulse.resumeLg

theorem cutByOci : b.Steady s.cutByOci := ite (fun _ => (h.setGen _).countTruncated) fun _ => h.setGen _

theorem badPeriod : b.Steady s.badPeriod :=
  ite (fun _ => (((h.setDmd _).setDmd _).raise _).addCause .demandLost) fun _ => h.setDmd _

theorem judgePeriod (p : Nat) : b.Steady (s.judgePeriod p) :=
  ite (fun _ => ite (fun _ => h.congr rfl rfl) fun _ => h.congr rfl rfl) fun _ => h.badPeriod

/-! ### The setup port -/

theorem commandByte (cmd : PortCommand) (r : ResultCode) (out : List Byte) : b.Steady (s.commandByte cmd r out) :=
  ite (fun _ => h.congr rfl rfl) fun _ => h

/-- A later byte of a transaction is as steady as what it does to the station (R174). -/
theorem laterByte {cmd : PortCommand} {effect : Transaction → State → State}
    (he : ∀ t u, b.Steady u → b.Steady (effect t u)) : b.Steady (s.laterByte cmd effect) := by
  unfold State.laterByte
  split
  · exact ite (fun _ => he _ _ (h.congr rfl rfl)) fun _ => h
  · exact h

theorem atByte {n : Nat} {effect : Transaction → State → State} {x : Transaction} (he : b.Steady (effect x s)) :
    b.Steady (atByte n effect x s) :=
  ite (fun _ => he) fun _ => h

theorem keepByte (sdi : Byte) (x : Transaction) : b.Steady (keepByte sdi x s) :=
  ite (fun _ => h.congr rfl rfl) fun _ => h

/-- The record is replaced in SETUP, where the trim is 0 under any TRIM_LIMIT (R80, R177). -/
theorem replaceRecord (sdi : Byte) (x : Transaction) : b.Steady (replaceRecord sdi x s) :=
  ite (fun hs => h.outside (by simp [hs]) id rfl) fun _ => h

end

end State.Steady

end Sys2Proof.Machine
end

section
/-! ## Every row keeps the share trim and the converter -/

namespace Sys2Proof.Machine

/-- From `s` to `t` the share trim still fits, and so do the converter and its queue. -/
structure State.Measures (s t : State) : Prop where
  share : ShareFits s → ShareFits t
  converter : ConverterFits s → ConverterFits t

theorem State.Steady.measures {s t : State} (h : s.Steady t) : s.Measures t := ⟨h.share, fun hs => hs.congr h.line⟩

@[simp] theorem State.stepTally_trimming (s : State) : s.stepTally.trimming = s.trimming := by
  obtain ⟨conv, queue, tally, h⟩ := s.stepTally_meas
  simp [State.trimming, h]

/-- The trim of a close stays within TRIM_LIMIT, and the run restarts at 8 (R145, R147). -/
theorem ShareFits.closeTrim {s : State} (h : ShareFits s) (r : WordRecord) : ShareFits (s.closeTrim r) := by
  by_cases ha : s.ctl.state = .active
  · obtain ⟨-, hle, -⟩ := h
    have htrim : s.trimAfter r ≤ s.port.config.trimLimit.toNat := nextTrim_le r hle
    rw [State.closeTrim_of_active ha]
    refine .of_active (by simpa using ha) (by simpa using htrim) ?_
    simp only [State.raiseIf_meas, State.setMeas_meas]
    split <;> omega
  · rwa [State.closeTrim_of_not_active ha]

/-- Share-valid follows the whole-word flag, which is clear outside ACTIVE (R143). -/
theorem ShareFits.closeShare {s : State} (h : ShareFits s) (r : WordRecord) : ShareFits (s.closeShare r) := by
  obtain ⟨hout, hle, hlt⟩ := h
  refine ⟨fun ha => ?_, hle, hlt⟩
  obtain ⟨htrim, -, hwhole, hrun⟩ := hout ha
  exact ⟨htrim, hwhole, hwhole, hrun⟩

namespace State.Measures

variable {s t u : State}

theorem congr (ht : t.trimming = s.trimming) (hl : t.line = s.line) : s.Measures t :=
  ((Steady.refl s).congr ht hl).measures

theorem trans (h : s.Measures t) (h' : t.Measures u) : s.Measures u :=
  ⟨fun hs => h'.share (h.share hs), fun hs => h'.converter (h.converter hs)⟩

theorem stepTally (h : s.Measures t) : s.Measures t.stepTally :=
  h.trans ⟨fun ht => ht.congr t.stepTally_trimming, fun ht => ht.stepTally⟩

theorem requestCurrent (h : s.Measures t) : s.Measures (t.setMeas t.meas.requestCurrent) := by
  refine h.trans ⟨fun ht => ht.congr ?_, fun ht => ht.requestCurrent⟩
  unfold MeasurementUnit.requestCurrent
  split
  · split <;> rfl
  · rfl

/-- The close: the state decision, the trim, the share value, then housekeeping (R47). -/
theorem closeWord (s : State) : s.Measures s.closeWord where
  share h := by
    have hcensus : s.Steady s.censusClose := (Steady.refl s).congr (by simp [State.trimming]) (by simp [State.line])
    have hdecided := (hcensus.closeState s.exch.damaged).share h
    have hshared := (hdecided.closeTrim s.exch.record).closeShare s.exch.record
    exact (hshared.congr (State.stepTally_trimming _)).congr (by simp [State.closeWord_of_census, State.trimming])
  converter h := by
    have hdecided : ConverterFits s.decidedClose := by
      obtain ⟨hconv, hqueue, -⟩ := State.housekeeping_eq_iff.mp s.decidedClose_housekeeping
      exact h.congr (by rw [State.line, hconv, hqueue]; rfl)
    exact hdecided.stepTally.congr rfl

/-- A frame start makes a due close on the way (R40). -/
theorem alignedRise (s : State) : s.Measures s.alignedRise := by
  have hjudged : s.Measures s.judgeCutFrame := (Steady.refl s).judgeCutFrame.measures
  have hclosed : s.judgeCutFrame.Measures s.judgeCutFrame.takeDueClose :=
    iteInduction (motive := s.judgeCutFrame.Measures) (fun _ => closeWord _) fun _ => (Steady.refl _).measures
  rw [State.alignedRise_eq]
  exact (hjudged.trans hclosed).trans (Steady.refl _).riseTail.measures

/-! ### The end of a conversion -/

/-- The converter is idle when a result is handed on, and a housekeeping entry has left the queue (R135, R140). -/
def served (s : State) (c : Conversion) : State :=
  s.setMeas { s.meas with conv := none, queue := if c.channel = .isns then s.meas.queue else s.meas.queue.drop 1 }

/-- What the result then does, the declarations and the rejoin included, leaves it so. -/
theorem served_takeResult (s : State) (c : Conversion) (code : Reading) :
    (served s c).Steady (s.takeResult c code) := by
  have h := Steady.refl (served s c)
  unfold State.takeResult
  dsimp only
  split
  next hch =>
    rw [State.takeCurrent_eq]
    exact h.congr rfl (by simp [State.line, served, hch])
  next hch =>
    have hkept : (served s c).Steady
        ((s.setMeas { s.meas with conv := none }).setMeas
          { s.meas with conv := none, queue := s.meas.queue.drop 1, lastTsns := code }) :=
      h.congr rfl (by simp [State.line, served, hch])
    exact .ite (fun _ => hkept.declareFault .overtemp) fun _ => .ite (fun _ => hkept.rejoin false) fun _ => hkept
  next hch =>
    have hkept : (served s c).Steady
        ((s.setMeas { s.meas with conv := none }).setMeas
          { s.meas with conv := none, queue := s.meas.queue.drop 1, lastVsns := code }) :=
      h.congr rfl (by simp [State.line, served, hch])
    exact .ite (fun _ => (hkept.raise _).addCause .undervolt) fun _ =>
      .ite (fun _ => hkept.congr rfl rfl) fun _ => hkept

/-- The result is handed on, and the head of the queue starts (R135, R140). -/
theorem conversionComplete (s : State) (c : Conversion) (code : Reading) :
    s.Measures (s.takeResult c code).startConversion := by
  have hserved := served_takeResult s c code
  refine ⟨fun h => ?share, fun h => ?converter⟩
  case share =>
    have htaken : ShareFits (s.takeResult c code) := hserved.share (h.congr rfl)
    exact htaken.congr (by simp [State.trimming, State.startConversion, MeasurementUnit.startNext_eq])
  case converter =>
    obtain ⟨hnodup, hisns, -, -⟩ := h
    have hline := hserved.line
    simp only [State.line, served, State.setMeas_meas, Option.map_none, Prod.mk.injEq, Option.map_eq_none_iff] at hline
    obtain ⟨hidle, hqueue⟩ := hline
    have hsub : (s.takeResult c code).meas.queue.Sublist s.meas.queue := by
      rw [hqueue]
      split
      · exact List.Sublist.refl _
      · exact List.drop_sublist 1 _
    exact .startNext (hnodup.sublist hsub) (fun hm => hisns (hsub.subset hm)) (fun _ hc => by simp [hidle] at hc) rfl

/-! ### Every command, and time -/

theorem whenDue {b : Bool} {after : State} (e : Machine.whenDue b s after = .next t)
    (ha : b = true → s.Measures after) : s.Measures t := by
  obtain rfl | ⟨hb, rfl⟩ := eq_or_of_whenDue e
  · exact (Steady.refl _).measures
  · exact ha hb

end State.Measures

namespace State.Steady

variable {s t : State}

theorem whenDue {b : Bool} {after : State} (e : Machine.whenDue b s after = .next t)
    (ha : b = true → s.Steady after) : s.Measures t :=
  Measures.whenDue e fun hb => (ha hb).measures

theorem done {after : State} (e : Machine.done after = .next t) (ha : s.Steady after) : s.Measures t := by
  simp only [Machine.done, Host.Outcome.next.injEq] at e
  exact e ▸ ha.measures

end State.Steady

namespace State.Measures

variable {s t : State}

/-- The events: those that move the converter, and those that leave it at its work. -/
theorem exec_event {c : Instr} (hc : c.isEvent = true) (e : Machine.exec c s = .next t) : s.Measures t := by
  have h := Steady.refl s
  cases c with
  | frameStart =>
    refine whenDue e fun _ => ?_
    have hhigh : s.Measures (s.qualifyFrm true) := congr rfl rfl
    split
    · exact congr rfl rfl
    · split
      · exact hhigh.trans (alignedRise _)
      · exact congr rfl rfl
  | wordClose => exact whenDue e fun _ => closeWord s
  | freeRunFrame =>
    refine whenDue e fun _ => ?_
    split
    · exact stepTally (congr rfl rfl)
    · exact congr rfl rfl
  | housekeepingPace => exact whenDue e fun _ => stepTally (congr rfl rfl)
  | currentTrigger =>
    refine whenDue e fun _ => ?_
    have htaken := (h.setGen { s.gen with triggered := true }).measures
    split
    · exact htaken.requestCurrent
    · exact htaken
  | conversionComplete code =>
    refine whenDue e fun _ => ?_
    split
    · exact conversionComplete s _ code
    · exact h.measures
  | frameFallingEdge => exact Steady.whenDue e fun _ => .ite (fun _ => h.followFall) fun _ => h.setFrame _
  | markClassified => exact Steady.whenDue e fun _ => h.classifyMark
  | ownEnd =>
    refine Steady.whenDue e fun _ => .ite (fun _ => h.congr rfl rfl) fun _ => .ite (fun _ => ?_) fun _ => ?_
    · exact .ite (fun _ => h.congr rfl rfl) fun _ => Steady.startStuck (h.congr rfl rfl)
    · exact Steady.startStuck (h.congr rfl rfl)
  | stuck => exact Steady.whenDue e fun _ => .ite (fun _ => h.congr rfl rfl) fun _ => (h.raise _).rejoin true
  | founding =>
    refine Steady.whenDue e fun hf => ?_
    simp only [State.foundingDue, Bool.and_eq_true, beq_iff_eq] at hf
    obtain ⟨hl, -⟩ := hf
    exact ((h.setFrame _).setExch _).startCheck hl
  | bitTime sample => exact Steady.whenDue e fun _ => (h.setExch _).bitTime _ _
  | warmUpComplete =>
    refine Steady.whenDue e fun _ => .ite (fun _ => ?_) fun _ => h.enterDecision .parked
    have hactive := h.enterDecision .active
    exact Steady.resumeLg (.ite (fun _ => hactive.swapSchedule) fun _ => hactive)
  | onPoint =>
    refine Steady.done e (.ite (fun _ => h.takeOnPoint) fun _ => .ite (fun _ => ?_) fun _ => h)
    exact .ite (fun _ => (h.setGen _).raise _) fun _ => h.setGen _
  | ociAssert =>
    have hhigh := h.setGen { s.gen with oci := Filter.settle 2 true }
    refine Steady.whenDue e fun _ => .ite (fun _ => hhigh.cutByOci) fun _ => .ite (fun _ => ?_) fun _ => hhigh
    exact (hhigh.setGen _).raise _
  | dmdActiveEdge =>
    refine Steady.whenDue e fun _ => Steady.setDmd (s := if s.dmd.cond = .opened then _ else s) ?_ _
    exact .ite (fun _ => (h.setDmd _).judgePeriod _) fun _ => h
  | dmdTimeout => exact Steady.whenDue e fun _ => (h.setDmd _).badPeriod
  | frmFirstQualifiedLevel high =>
    exact Steady.whenDue e fun _ => .ite (fun _ => h.congr rfl rfl) fun _ => h.congr rfl rfl
  | pullPoint | listenStuckDeclared | drivePoint | leadPoint | pulseEnd | deadTimeRunOut | dmdInactiveEdge =>
    exact Steady.whenDue e fun _ => h.congr (by simp [State.trimming]) (by simp [State.line])
  | _ => simp [Instr.isEvent] at hc

/-- RESET puts the measurement unit back; the port reaches it through START, ASIDE and CLEAR_FAULT, and TRIM_LIMIT
through WRITE_CONFIG. -/
theorem exec {c : Instr} (e : Machine.exec c s = .next t) : s.Measures t := by
  have h := Steady.refl s
  have hsilent : ∀ cmd, s.Steady (s.laterByte cmd noEffect) := fun _ => h.laterByte fun _ _ hu => hu
  cases c with
  | reset =>
    simp only [Machine.exec, execReset, Machine.done, Host.Outcome.next.injEq] at e
    subst e
    exact ⟨fun _ => ShareFits.reset.congr rfl, fun _ => ConverterFits.reset.congr rfl⟩
  | resetRelease x low =>
    have hsampled : s.Steady (s.sampleStraps x low) := h.congr rfl rfl
    exact Steady.whenDue e fun _ => .ite (fun _ => hsampled.startStation) fun _ => hsampled
  | ident byte | readConfig byte | readRoster byte =>
    cases byte with
    | command => exact Steady.done e (h.commandByte _ _ _)
    | later sdi => exact Steady.done e (hsilent _)
  | writeConfig byte =>
    cases byte with
    | command => exact Steady.done e (h.commandByte _ _ _)
    | later sdi =>
      refine Steady.done e (h.laterByte fun x _ hu => ?_)
      exact (hu.keepByte sdi x).atByte ((hu.keepByte sdi x).replaceRecord sdi x)
  | start byte =>
    cases byte with
    | command => exact Steady.done e (h.commandByte _ _ _)
    | later sdi => exact Steady.done e (h.laterByte fun _ _ hu => hu.atByte hu.startStation)
  | readStatus byte | readHistory byte =>
    cases byte with
    | command => exact Steady.done e (.ite (fun _ => h.congr rfl rfl) fun _ => h)
    | later sdi => exact Steady.done e (h.laterByte fun _ _ hu => hu.atByte (hu.congr rfl rfl))
  | aside byte =>
    cases byte with
    | command => exact Steady.done e (h.commandByte _ _ _)
    | later sdi =>
      exact Steady.done e (h.laterByte fun _ _ hu => hu.atByte (.ite (fun _ => hu) fun _ => hu.addCause .commanded))
  | ret byte =>
    cases byte with
    | command => exact Steady.done e (h.commandByte _ _ _)
    | later sdi => exact Steady.done e (h.laterByte fun _ _ hu => hu.atByte (hu.congr rfl rfl))
  | clearFault byte =>
    cases byte with
    | command => exact Steady.done e (h.commandByte _ _ _)
    | later sdi => exact Steady.done e (h.laterByte fun _ _ hu => hu.atByte (hu.rejoin false))
  | unknown code byte =>
    cases byte with
    | command => exact Steady.done e (.ite (fun _ => h.commandByte _ _ _) fun _ => h)
    | later sdi => exact Steady.done e (hsilent _)
  | transactionCut => exact Steady.whenDue e fun _ => h.congr rfl rfl
  | _ => exact exec_event rfl e

theorem idle (s : State) : s.Measures s.idle := by
  unfold State.idle
  split
  · exact congr s.tick_trimming s.tick_line
  · exact congr rfl rfl
  · exact congr rfl rfl

end State.Measures

/-- What every invariant of the measurement unit reads is kept by a step. -/
theorem step_measures {s t : State} (e : step s = .next t) : s.Measures t := by
  unfold step at e
  split at e
  next c rest _ =>
    have hpopped : s.Measures (s.setPending rest) := .congr rfl rfl
    exact hpopped.trans (.exec e)
  next =>
    obtain rfl := Host.Outcome.next.inj e
    exact .idle s

end Sys2Proof.Machine

open Sys2Proof Sys2Proof.Machine

/-- Settles O57: the share side of `step_measures`. -/
theorem trimStaysWithinItsLimit : Obligations.TrimStaysWithinItsLimit := fun _ _ h e => (step_measures e).share h

/-- Settles O58: its converter side. -/
theorem converterServesItsQueue : Obligations.ConverterServesItsQueue := fun _ _ h e => (step_measures e).converter h
end

section
/-! ## The operations that leave the aside causes alone -/

namespace Sys2Proof.Machine

/-! The causes change by ADD and REMOVE of one cause (R84), and by nothing else that a station does. -/

@[simp] theorem Controller.calm_causes (c : Controller) : c.calm.causes = c.causes := rfl

namespace State

variable (s : State)

/-! ### The station controller -/

@[simp] theorem removeCause_causes (c : AsideCause) : (s.removeCause c).ctl.causes = s.ctl.causes.remove c := rfl
@[simp] theorem endPart_causes : s.endPart.ctl.causes = s.ctl.causes := rfl
@[simp] theorem rejoin_causes (b : Bool) : (s.rejoin b).ctl.causes = s.ctl.causes := rfl
@[simp] theorem enterHold_causes : s.enterHold.ctl.causes = s.ctl.causes := rfl

@[simp] theorem addCause_causes (c : AsideCause) : (s.addCause c).ctl.causes = s.ctl.causes.add c := by
  unfold addCause; dsimp only; split
  · rfl
  · split <;> rfl

@[simp] theorem enterFault_causes (c : FaultCause) (n : Nat) : (s.enterFault c n).ctl.causes = s.ctl.causes := by
  rw [enterFault_ctl]; rfl

@[simp] theorem declareFault_causes (c : FaultCause) : (s.declareFault c).ctl.causes = s.ctl.causes := by
  unfold declareFault
  split
  · rfl
  · split <;> simp
  all_goals simp

@[simp] theorem startStation_causes : s.startStation.ctl.causes = s.ctl.causes := by
  unfold startStation; split <;> rfl

@[simp] theorem startCheck_causes : s.startCheck.ctl.causes = s.ctl.causes := by rw [startCheck_ctl]; rfl

@[simp] theorem align_causes : s.align.ctl.causes = s.ctl.causes := by simp [align]

@[simp] theorem found_causes : s.found.ctl.causes = s.ctl.causes := by simp [found]

@[simp] theorem readHalt_causes : s.readHalt.ctl.causes = s.ctl.causes := by
  unfold readHalt; dsimp only; split <;> simp

@[simp] theorem enterDecision_causes (d : Decision) : (s.enterDecision d).ctl.causes = s.ctl.causes := by
  rw [enterDecision_ctl]; rfl

@[simp] theorem takeDecided_causes : s.takeDecided.ctl.causes = s.ctl.causes := by
  obtain ⟨-, hcauses, -⟩ := s.takeDecided_ctl; exact hcauses

@[simp] theorem closeWord_causes : s.closeWord.ctl.causes = s.ctl.causes := by
  rw [closeWord_ctl, closeState_causes, censusClose_ctl]

/-! ### The bits of the word and the frame line -/

@[simp] theorem enterBit_causes (i : Nat) (r : ReadBit) : (s.enterBit i r).ctl.causes = s.ctl.causes := by
  unfold enterBit
  split
  · dsimp only; split <;> simp
  · split
    · split
      · rfl
      · split <;> simp
    · split <;> rfl

@[simp] theorem bitTime_causes (i : Nat) (r : ReadBit) : (s.bitTime i r).ctl.causes = s.ctl.causes := by
  simp [bitTime]

@[simp] theorem judgeCutFrame_causes : s.judgeCutFrame.ctl.causes = s.ctl.causes := by
  unfold judgeCutFrame; split <;> simp

@[simp] theorem takeDueClose_causes : s.takeDueClose.ctl.causes = s.ctl.causes := by
  unfold takeDueClose; split <;> simp

@[simp] theorem wordStart_causes (b : Bool) : (s.wordStart b).ctl.causes = s.ctl.causes := by
  unfold wordStart; split <;> simp

@[simp] theorem startFrame_causes (i : Fin 30) : (s.startFrame i).ctl.causes = s.ctl.causes := by
  simp [startFrame_eq, counted_eq]

@[simp] theorem riseTail_causes : s.riseTail.ctl.causes = s.ctl.causes := by
  unfold riseTail
  split
  · split <;> simp
  · rfl

@[simp] theorem alignedRise_causes : s.alignedRise.ctl.causes = s.ctl.causes := by simp [alignedRise_eq]

@[simp] theorem markError_causes : s.markError.ctl.causes = s.ctl.causes := by
  unfold markError; dsimp only; split <;> simp

@[simp] theorem classifyNormal_causes : s.classifyNormal.ctl.causes = s.ctl.causes := by
  unfold classifyNormal; dsimp only; split <;> simp

@[simp] theorem classifyMark_causes : s.classifyMark.ctl.causes = s.ctl.causes := by
  unfold classifyMark
  dsimp only
  split
  · split <;> simp
  · split <;> simp

@[simp] theorem fall_causes : s.fall.ctl.causes = s.ctl.causes := by
  have hjudged : s.judgedFall.ctl.causes = s.ctl.causes := by unfold judgedFall; split <;> simp [fallen_eq]
  rw [fall_eq]; split <;> simp [hjudged]

@[simp] theorem followFall_causes : s.followFall.ctl.causes = s.ctl.causes := by
  unfold followFall; split <;> simp

@[simp] theorem announceEnd_causes : s.announceEnd.ctl.causes = s.ctl.causes := by
  unfold announceEnd; dsimp only; split <;> simp

/-! ### The phase generator and the measurement unit -/

@[simp] theorem countTruncated_causes : s.countTruncated.ctl.causes = s.ctl.causes := by
  unfold countTruncated; dsimp only; split <;> simp

@[simp] theorem cutByOci_causes : s.cutByOci.ctl.causes = s.ctl.causes := by
  unfold cutByOci; dsimp only; split <;> simp

@[simp] theorem takePulse_causes : s.takePulse.ctl.causes = s.ctl.causes := by
  unfold takePulse
  split
  · split <;> simp
  · rfl

@[simp] theorem takeOnPoint_causes : s.takeOnPoint.ctl.causes = s.ctl.causes := by simp [takeOnPoint]

@[simp] theorem takeTemperature_causes (code : Reading) : (s.takeTemperature code).ctl.causes = s.ctl.causes := by
  unfold takeTemperature
  dsimp only
  split
  · simp
  · split <;> simp

/-- A voltage result moves UNDERVOLT alone (R171). -/
@[simp] theorem takeVoltage_demandLost (code : Reading) :
    (s.takeVoltage code).ctl.causes.demandLost = s.ctl.causes.demandLost := by
  unfold takeVoltage
  dsimp only
  split
  · simp [AsideCauses.add]
  · split <;> simp [AsideCauses.remove]

@[simp] theorem takeResult_demandLost (c : Conversion) (code : Reading) :
    (s.takeResult c code).ctl.causes.demandLost = s.ctl.causes.demandLost := by
  unfold takeResult; dsimp only; split <;> simp

end State

end Sys2Proof.Machine
end

section
/-! ## The demand monitor and its cause, in every step -/

namespace Sys2Proof.Machine

/-! ### What the invariant reads, and the rows that leave it -/

/-- What `DemandFits` reads: the two runs, whether the monitor is VALID, and whether DEMAND_LOST is present. -/
def State.standing (s : State) : (Nat × Nat × Bool) × Bool :=
  ((s.dmd.goodRun, s.dmd.badRun, s.dmd.valid), s.ctl.causes.demandLost)

theorem DemandFits.congr {s t : State} (h : DemandFits s) (ht : t.standing = s.standing) : DemandFits t := by
  simp only [State.standing, Prod.mk.injEq] at ht
  obtain ⟨⟨hgood, hbad, hvalid⟩, hlost⟩ := ht
  simpa only [DemandFits, hgood, hbad, hvalid, hlost] using h

theorem standing_of_whenDue {b : Bool} {s after t : State} (e : whenDue b s after = .next t)
    (ha : after.standing = s.standing) : t.standing = s.standing := by
  obtain rfl | ⟨-, rfl⟩ := eq_or_of_whenDue e
  · rfl
  · exact ha

theorem standing_of_done {s after t : State} (e : done after = .next t) (ha : after.standing = s.standing) :
    t.standing = s.standing := by
  simp only [done, Host.Outcome.next.injEq] at e
  exact e ▸ ha

theorem standing_ite {c : Prop} [Decidable c] {s a b : State} (ha : a.standing = s.standing)
    (hb : b.standing = s.standing) : (if c then a else b).standing = s.standing :=
  iteInduction (motive := fun u : State => u.standing = s.standing) (fun _ => ha) (fun _ => hb)

theorem State.commandByte_standing (s : State) (cmd : PortCommand) (r : ResultCode) (out : List Byte) :
    (s.commandByte cmd r out).standing = s.standing :=
  standing_ite rfl rfl

/-- A byte of a transaction leaves the standing to what the byte does (R174). -/
theorem State.laterByte_standing {s : State} {cmd : PortCommand} {effect : Transaction → State → State}
    (he : ∀ t u, (effect t u).standing = u.standing) : (s.laterByte cmd effect).standing = s.standing := by
  unfold State.laterByte
  split
  · exact standing_ite (he _ _) rfl
  · rfl

theorem atByte_standing {n : Nat} {effect : Transaction → State → State}
    (he : ∀ t u, (effect t u).standing = u.standing) (t : Transaction) (u : State) :
    (atByte n effect t u).standing = u.standing :=
  standing_ite (he t u) rfl

theorem State.tick_standing (s : State) : s.tick.standing = s.standing := by
  have hruns : s.tick.dmd = s.dmd ∨ s.tick.dmd = s.dmd.tick (s.inputs.dmdHigh == s.activeLevel) := by
    unfold State.tick; split
    · exact .inr rfl
    · exact .inl rfl
  rcases hruns with h | h <;> simp [State.standing, h, DemandMonitor.tick]

/-- Of the events only an active-going edge and a timeout judge a period (R153, R154). -/
theorem exec_event_standing {s t : State} {c : Instr} (hc : c.isEvent = true) (hedge : c ≠ .dmdActiveEdge)
    (htimeout : c ≠ .dmdTimeout) (e : exec c s = .next t) : t.standing = s.standing := by
  cases c with
  | dmdActiveEdge => exact absurd rfl hedge
  | dmdTimeout => exact absurd rfl htimeout
  | frameStart =>
    refine standing_of_whenDue e (standing_ite rfl (standing_ite ?_ rfl))
    simp [State.standing]
  | frameFallingEdge =>
    refine standing_of_whenDue e (standing_ite ?_ rfl)
    simp [State.standing]
  | ownEnd =>
    refine standing_of_whenDue e (standing_ite rfl (standing_ite ?_ ?_)) <;> simp [State.standing]
  | stuck => exact standing_of_whenDue e (standing_ite rfl rfl)
  | freeRunFrame => exact standing_of_whenDue e (standing_ite (by simp [State.standing]) rfl)
  | markClassified | founding | drivePoint | bitTime _ | wordClose | housekeepingPace =>
    exact standing_of_whenDue e (by simp [State.standing])
  | warmUpComplete =>
    refine standing_of_whenDue e (standing_ite ?_ ?_) <;> simp [State.standing]
  | onPoint =>
    refine standing_of_done e (standing_ite ?_ (standing_ite (standing_ite rfl rfl) rfl))
    simp [State.standing]
  | currentTrigger => exact standing_of_whenDue e (standing_ite rfl rfl)
  | ociAssert =>
    refine standing_of_whenDue e (standing_ite ?_ (standing_ite rfl rfl))
    simp [State.standing]
  | conversionComplete code =>
    refine standing_of_whenDue e ?_
    split
    · simp [State.standing]
    · rfl
  | frmFirstQualifiedLevel _ => exact standing_of_whenDue e (standing_ite rfl rfl)
  | pullPoint | listenStuckDeclared | leadPoint | pulseEnd | deadTimeRunOut | dmdInactiveEdge =>
    exact standing_of_whenDue e rfl
  | _ => simp [Instr.isEvent] at hc

/-- Nor does any row of the port: ASIDE and RETURN move COMMANDED alone (R84). -/
theorem exec_port_standing {s t : State} {c : Instr} (hc : c.isEvent = false) (hreset : c ≠ .reset)
    (e : exec c s = .next t) : t.standing = s.standing := by
  have hcommand := s.commandByte_standing
  have hsilent (cmd : PortCommand) : (s.laterByte cmd noEffect).standing = s.standing :=
    State.laterByte_standing fun _ _ => rfl
  have heffect {cmd : PortCommand} {n : Nat} {effect : Transaction → State → State}
      (he : ∀ x u, (effect x u).standing = u.standing) : (s.laterByte cmd (atByte n effect)).standing = s.standing :=
    State.laterByte_standing (atByte_standing he)
  cases c with
  | reset => exact absurd rfl hreset
  | resetRelease x low =>
    refine standing_of_whenDue e (standing_ite ?_ rfl)
    exact standing_ite rfl rfl
  | ident byte | readConfig byte | readRoster byte =>
    cases byte with
    | command => exact standing_of_done e (hcommand _ _ _)
    | later sdi => exact standing_of_done e (hsilent _)
  | writeConfig byte =>
    cases byte with
    | command => exact standing_of_done e (hcommand _ _ _)
    | later sdi =>
      refine standing_of_done e (State.laterByte_standing fun x u => ?_)
      have hkept : (keepByte sdi x u).standing = u.standing := standing_ite rfl rfl
      have hreplaced : ∀ x u, (replaceRecord sdi x u).standing = u.standing := fun _ _ => standing_ite rfl rfl
      exact (atByte_standing hreplaced x _).trans hkept
  | readStatus byte | readHistory byte =>
    cases byte with
    | command => exact standing_of_done e (standing_ite rfl rfl)
    | later sdi => exact standing_of_done e (heffect fun _ _ => rfl)
  | start byte =>
    cases byte with
    | command => exact standing_of_done e (hcommand _ _ _)
    | later sdi => exact standing_of_done e (heffect fun _ u => by simp [State.standing, takeStart])
  | aside byte =>
    cases byte with
    | command => exact standing_of_done e (hcommand _ _ _)
    | later sdi =>
      refine standing_of_done e (heffect fun _ u => standing_ite rfl ?_)
      simp [State.standing, AsideCauses.add]
  | ret byte | clearFault byte =>
    cases byte with
    | command => exact standing_of_done e (hcommand _ _ _)
    | later sdi => exact standing_of_done e (heffect fun _ _ => rfl)
  | unknown code byte =>
    cases byte with
    | command => exact standing_of_done e (standing_ite (hcommand _ _ _) rfl)
    | later sdi => exact standing_of_done e (hsilent _)
  | transactionCut => exact standing_of_whenDue e rfl
  | _ => simp [Instr.isEvent] at hc

/-! ### A good period -/

/-- The monitor after a good period that brings no passage (R153, R155). -/
def DemandMonitor.creditGood (d : DemandMonitor) (demand : Reading) : DemandMonitor :=
  { d.countGood with lastGood := demand }

/-- A good period of a VALID monitor, and the first in a row of a LOST one, is only counted (R155). -/
theorem State.goodPeriod_of_first {s : State} (h : s.dmd.valid = true ∨ s.dmd.goodRun = 0) (demand : Reading) :
    s.goodPeriod demand = s.setDmd (s.dmd.creditGood demand) := by
  rcases h with h | h <;>
    simp [State.goodPeriod, State.passValid, DemandMonitor.creditGood, DemandMonitor.countGood, h]

/-- The second good period in a row makes a LOST monitor VALID and removes the cause (R157). -/
theorem State.goodPeriod_of_second {s : State} (hv : s.dmd.valid = false) (hg : 0 < s.dmd.goodRun)
    (demand : Reading) :
    s.goodPeriod demand
      = (s.setDmd { s.dmd.creditGood demand with valid := true }).removeCause .demandLost := by
  have hrun : min 2 (s.dmd.goodRun + 1) = 2 := by omega
  simp only [State.goodPeriod, State.passValid, DemandMonitor.creditGood, DemandMonitor.countGood, State.setDmd_dmd,
    hv, hrun]
  rfl

/-! ### The judgement of a period keeps the invariant -/

namespace DemandFits

variable {s : State}

/-- A good period ends the bad-run; a LOST monitor stays LOST at its first and is VALID from its second (R155, R157). -/
theorem goodPeriod (h : DemandFits s) (demand : Reading) : DemandFits (s.goodPeriod demand) := by
  obtain ⟨-, -, -, -, -, hlost⟩ := h
  by_cases hfirst : s.dmd.valid = true ∨ s.dmd.goodRun = 0
  · rw [State.goodPeriod_of_first hfirst]
    refine ⟨min_le_left _ _, Nat.zero_le _, .inr rfl, fun _ => Nat.two_pos, fun hv => ?_, hlost⟩
    have hrun : s.dmd.goodRun = 0 := hfirst.resolve_left (Bool.eq_false_iff.mp hv)
    change min 2 (s.dmd.goodRun + 1) < 2
    omega
  · obtain ⟨hv, hg⟩ := not_or.mp hfirst
    rw [State.goodPeriod_of_second (Bool.eq_false_iff.mpr hv) (Nat.pos_of_ne_zero hg)]
    exact ⟨min_le_left _ _, Nat.zero_le _, .inr rfl, fun _ => Nat.two_pos, nofun, rfl⟩

/-- A bad period ends the good-run; a VALID monitor stays VALID at its first and is LOST from its second, with the cause
added (R155, R156). -/
theorem badPeriod (h : DemandFits s) : DemandFits s.badPeriod := by
  obtain ⟨-, -, -, -, -, hlost⟩ := h
  by_cases hfirst : s.dmd.valid = false ∨ s.dmd.badRun = 0
  · rw [State.badPeriod_of_first hfirst]
    refine ⟨Nat.zero_le _, min_le_left _ _, .inl rfl, fun hv => ?_, fun _ => Nat.two_pos, hlost⟩
    have hrun : s.dmd.badRun = 0 := hfirst.resolve_left (fun hf => Bool.false_ne_true (hf.symm.trans hv))
    change min 2 (s.dmd.badRun + 1) < 2
    omega
  · obtain ⟨hv, hb⟩ := not_or.mp hfirst
    have hcause (d : DemandMonitor) : (s.loseDemand d).ctl.causes.demandLost = true := by
      simp [State.loseDemand, AsideCauses.add]
    rw [State.badPeriod_of_second (by simpa using hv) (Nat.pos_of_ne_zero hb), DemandFits, hcause,
      State.loseDemand_dmd]
    exact ⟨Nat.zero_le _, min_le_left _ _, .inl rfl, nofun, fun _ => Nat.two_pos, rfl⟩

theorem judgePeriod (h : DemandFits s) (period : Nat) : DemandFits (s.judgePeriod period) := by
  unfold State.judgePeriod
  split
  · exact h.goodPeriod _
  · exact h.badPeriod

/-! ### Every command, and time -/

theorem whenDue {b : Bool} {after t : State} (h : DemandFits s) (ha : DemandFits after)
    (e : Machine.whenDue b s after = .next t) : DemandFits t := by
  obtain rfl | ⟨-, rfl⟩ := eq_or_of_whenDue e
  · exact h
  · exact ha

/-- An active-going edge judges the period it ends, if one was open, and opens the next (R151, R153). -/
theorem dmdActiveEdge {t : State} (h : DemandFits s) (e : Machine.exec .dmdActiveEdge s = .next t) :
    DemandFits t := by
  have hlatched : DemandFits (s.setDmd { s.dmd with period := s.dmd.capture }) := h.congr rfl
  have hjudged : DemandFits
      (if s.dmd.cond = .opened then (s.setDmd { s.dmd with period := s.dmd.capture }).judgePeriod s.dmd.capture
       else s) := by
    split
    · exact hlatched.judgePeriod _
    · exact h
  refine h.whenDue ?_ e
  exact hjudged.congr rfl

/-- A timeout is a bad period (R154). -/
theorem dmdTimeout {t : State} (h : DemandFits s) (e : Machine.exec .dmdTimeout s = .next t) : DemandFits t := by
  have htimed : DemandFits (s.setDmd { s.dmd with timeouts := s.dmd.timeouts + 1, cond := .judged }) := h.congr rfl
  exact h.whenDue htimed.badPeriod e

/-- RESET gives the invariant whatever stood before (R159), the two judging rows keep it, and every other row leaves
what it reads. -/
theorem exec {c : Instr} {t : State} (h : DemandFits s) (e : Machine.exec c s = .next t) : DemandFits t := by
  by_cases hreset : c = .reset
  · subst hreset
    obtain rfl := Host.Outcome.next.inj e
    exact DemandFits.reset.congr rfl
  by_cases hedge : c = .dmdActiveEdge
  · subst hedge
    exact h.dmdActiveEdge e
  by_cases htimeout : c = .dmdTimeout
  · subst htimeout
    exact h.dmdTimeout e
  cases hevent : c.isEvent with
  | true => exact h.congr (exec_event_standing hevent hedge htimeout e)
  | false => exact h.congr (exec_port_standing hevent hreset e)

theorem idle (h : DemandFits s) : DemandFits s.idle := by
  unfold State.idle
  split
  · exact h.congr s.tick_standing
  · exact h.congr rfl
  · exact h.congr rfl

theorem step {t : State} (h : DemandFits s) (e : step s = .next t) : DemandFits t := by
  unfold Machine.step at e
  split at e
  next c rest _ =>
    have hpopped : DemandFits (s.setPending rest) := h.congr rfl
    exact hpopped.exec e
  next =>
    obtain rfl := Host.Outcome.next.inj e
    exact h.idle

end DemandFits

end Sys2Proof.Machine

open Sys2Proof Sys2Proof.Machine

/-- Settles O59: a period judged good or bad keeps the runs and the cause with the monitor, RESET puts both back, and
nothing else moves them. -/
theorem demandCauseFollowsTheMonitor : Obligations.DemandCauseFollowsTheMonitor := fun _ _ h e => h.step e
end

section
/-! ## The edges of DMD -/

namespace Sys2Proof.Machine

/-- The first active-going edge, or one after a timeout, opens a period and judges none (R151, R153). -/
theorem exec_dmdActiveEdge_of_no_period {s : State} (hs : s.started = true) (hl : s.dmd.filter.level = some false)
    (hc : s.dmd.cond ≠ .opened) : exec .dmdActiveEdge s = .next (s.setDmd s.dmd.openPeriod) := by
  refine (whenDue_of_true (by simp [State.activeCan, hs, hl]) _ _).trans ?_
  rw [if_neg hc]

/-- An active-going edge that ends a period within the window judges it good (R153). -/
theorem exec_dmdActiveEdge_of_fit {s : State} (hs : s.started = true) (hl : s.dmd.filter.level = some false)
    (hc : s.dmd.cond = .opened) (hlow : s.port.config.dmdMin.toNat ≤ s.dmd.capture)
    (hhigh : s.dmd.capture ≤ s.port.config.dmdMax.toNat) :
    exec .dmdActiveEdge s
      = .next
        (let judged := (s.setDmd { s.dmd with period := s.dmd.capture }).goodPeriod (demandOf s.dmd.high s.dmd.capture)
         judged.setDmd judged.dmd.openPeriod) := by
  have hin : (s.setDmd { s.dmd with period := s.dmd.capture }).inWindow s.dmd.capture = true :=
    State.inWindow_iff.mpr ⟨hlow, hhigh⟩
  refine (whenDue_of_true (by simp [State.activeCan, hs, hl]) _ _).trans ?_
  rw [if_pos hc, State.judgePeriod, if_pos hin]
  rfl

end Sys2Proof.Machine

open Sys2Proof Sys2Proof.Machine

/-- Settles O41: an active-going edge by whether it ends a period and whether a good one makes the passage to VALID, and
an inactive-going edge at its level. -/
theorem demandEdgesCaptureThePeriod : Obligations.DemandEdgesCaptureThePeriod := by
  intro s hs n opened judged
  refine ⟨fun hl hc => ?_, fun hl hc hlow hhigh => ⟨fun hfirst => ?_, fun hv hg => ?_⟩, fun hl => ?_⟩
  · exact exec_dmdActiveEdge_of_no_period hs hl hc
  · rw [exec_dmdActiveEdge_of_fit hs hl hc hlow hhigh, State.goodPeriod_of_first (by exact hfirst)]
    rfl
  · rw [exec_dmdActiveEdge_of_fit hs hl hc hlow hhigh, State.goodPeriod_of_second (by exact hv) (by exact hg)]
    rfl
  · rw [exec_dmdInactiveEdge, if_pos (by simp [State.inactiveCan, hs, hl])]
    rfl
end

section
/-! ## The status read -/

namespace Sys2Proof.Machine

/-- The command byte of READ_STATUS at an open port: the record and the flags as they stand, and the marks of the flags
raised since the last count (R181; log 14). -/
theorem State.snapshot_eq (s : State) :
    s.snapshot
      = s.setPort
        { s.port with
          marks := some s.port.raisedNow
          sdo := some 0x00
          txn := some ⟨.readStatus, .accepted, 1, s.statusBytes, [], s.port.flags, 0⟩ } := rfl

/-- An effect at the first data byte acts on the station whose port has shifted that byte out (R174). -/
theorem State.laterByte_of_firstDataByte {s : State} {t : Transaction} {cmd : PortCommand} (ho : s.portOpen = true)
    (ht : s.port.txn = some t) (hc : t.cmd = cmd) (hr : t.result = .accepted) (hb : t.bytes = 2)
    (effect : Transaction → State → State) :
    s.laterByte cmd (atByte 3 effect)
      = effect t
        (s.setPort { s.port with sdo := some (t.out.getD 0 0x00), txn := some { t with bytes := 3 } }) := by
  have hbyte : s.advanceByte t
      = s.setPort { s.port with sdo := some (t.out.getD 0 0x00), txn := some { t with bytes := 3 } } := by
    simp [State.advanceByte, Transaction.shiftOut, hr, hb]
  rw [State.laterByte_of_txn ho ht hc, hbyte]
  exact if_pos ⟨hr, by omega⟩

/-- A flag stays set at the effect point if it was not shown or has its raise mark (R181). -/
theorem PortUnit.clearShown_flags (p : PortUnit) {m : FlagSet} (hm : p.marks = some m) (shown : FlagSet) (i : Nat) :
    (p.clearShown shown).flags.getLsbD i = (p.flags.getLsbD i && (!shown.getLsbD i || m.getLsbD i)) := by
  by_cases hi : i < 13
  · simp [PortUnit.clearShown, hm, hi]
  · simp [PortUnit.clearShown, BitVec.getLsbD_of_ge _ i (Nat.le_of_not_lt hi)]

/-! The fields of the status record in the numbers of section 11.9. -/

theorem twoBytes_eq_twoBytesOf (x : Half) : twoBytes x = twoBytesOf x.toNat := by
  rw [twoBytesOf, BitVec.ofNat_toNat, BitVec.setWidth_eq]

theorem twoBytes_setWidth_eq_twoBytesOf (f : FlagSet) : twoBytes (f.setWidth 16) = twoBytesOf f.toNat := by
  rw [twoBytesOf, BitVec.ofNat_toNat]

theorem State.code_of_straps {s : State} {x : Straps} (hx : s.straps = some x) : s.code = x.code := by
  simp [State.code, hx]

theorem twoBytes_length (x : Half) : (twoBytes x).length = 2 := rfl

theorem State.statusBytes_length (s : State) : s.statusBytes.length = 28 := by
  simp [State.statusBytes, oneByte, twoBytesOf, twoBytes_length]

end Sys2Proof.Machine

open Sys2Proof Sys2Proof.Machine

/-- Settles O48: the snapshot of the command byte, and the flags left at the first data byte. -/
theorem statusReadShowsAndClearsTheFlags : Obligations.StatusReadShowsAndClearsTheFlags := by
  intro s x hx hw
  have hopen : s.portOpen = true := State.portOpen_iff.mpr ⟨by simp [hx], hw⟩
  refine ⟨?_, fun t sdi m ht hc hr hb hm => ?_⟩
  · intro one two cause causes out
    have hcause : faultByte s.ctl.faultCause = cause := by
      cases hf : s.ctl.faultCause with
      | none => simp [cause, hf, faultByte]
      | some c => cases c <;> simp [cause, hf, faultByte]
    have hout : s.statusBytes = out := by
      rw [State.statusBytes, hcause, State.code_of_straps hx, twoBytes_eq_twoBytesOf, twoBytes_setWidth_eq_twoBytesOf]
      rfl
    rw [← hout]
    exact ⟨s.statusBytes_length, congrArg Host.Outcome.next ((if_pos hopen).trans s.snapshot_eq)⟩
  · have hcleared := State.laterByte_of_firstDataByte hopen ht hc hr hb clearFlags
    refine ⟨_, (congrArg Host.Outcome.next hcleared).trans rfl, fun i => ?_⟩
    exact PortUnit.clearShown_flags _ hm t.shown i
end

section
/-! ## A raise, its mark, and ALERT -/

namespace Sys2Proof.Machine

/-- Each flag has a bit of its own (section 11.9). -/
theorem Flag.or_bit_getLsbD (m : FlagSet) (f g : Flag) :
    (m ||| f.bit).getLsbD g.number = (m.getLsbD g.number || decide (f = g)) := by
  have hbit : f.bit.getLsbD g.number = decide (f = g) := by cases f <;> cases g <;> rfl
  rw [BitVec.getLsbD_or, hbit]

/-- Each of the thirteen bits belongs to a flag (section 11.9). -/
theorem Flag.exists_number {i : Nat} (hi : i < 13) : ∃ f : Flag, f.number = i := by
  have hall : [Flag.duplicate, .overcurrent, .overtemp, .undervolt, .demandLost, .stuck, .markError, .haltSeen,
      .damagedWord, .shareLimit, .hkLate, .groupWait, .rosterChange].map Flag.number = List.range 13 := rfl
  have hmem := List.mem_range.mpr hi
  rw [← hall] at hmem
  obtain ⟨f, -, hf⟩ := List.mem_map.mp hmem
  exact ⟨f, hf⟩

/-- A raise during a status read sets its mark (R181). -/
theorem State.raise_marks_of_some {s : State} {m : FlagSet} (hm : s.port.marks = some m) (f : Flag) :
    (s.raise f).port.marks = some (m ||| f.bit) :=
  congrArg (Option.map (· ||| f.bit)) hm

theorem State.raise_marks_of_none {s : State} (hm : s.port.marks = none) (f : Flag) :
    (s.raise f).port.marks = none :=
  congrArg (Option.map (· ||| f.bit)) hm

/-- The mask bits 13..15 meet no flag. -/
theorem State.masked_bit_iff (s : State) (i : Nat) :
    (s.port.flags.setWidth 16 &&& s.port.config.alertMask).getLsbD i = true
      ↔ s.port.flags.getLsbD i = true ∧ s.port.config.alertMask.getLsbD i = true := by
  rw [BitVec.getLsbD_and, BitVec.getLsbD_setWidth, Bool.and_eq_true, Bool.and_eq_true, decide_eq_true_iff]
  have hwide : s.port.flags.getLsbD i = true → i < 16 := fun h => (BitVec.lt_of_getLsbD h).trans (by decide)
  tauto

/-- The station pulls ALERT exactly for a flag that is set and not masked (R184). -/
theorem State.alert_iff (s : State) :
    s.alert = true ↔ ∃ f, s.flagSet f = true ∧ s.port.config.alertMask.getLsbD f.number = true := by
  rw [State.alert, bne_iff_ne]
  constructor
  · intro hne
    by_contra hnone
    refine hne (BitVec.eq_of_getLsbD_eq fun i _ => ?_)
    refine (Bool.eq_false_iff.mpr fun hi => ?_).trans BitVec.getLsbD_zero.symm
    obtain ⟨hf, hm⟩ := (s.masked_bit_iff i).mp hi
    obtain ⟨f, rfl⟩ := Flag.exists_number (BitVec.lt_of_getLsbD hf)
    exact hnone ⟨f, hf, hm⟩
  · rintro ⟨f, hf, hm⟩ hzero
    have hbit := (s.masked_bit_iff f.number).mpr ⟨hf, hm⟩
    simp [hzero] at hbit

end Sys2Proof.Machine

open Sys2Proof Sys2Proof.Machine

/-- Settles O49: the bits of the flags and of the marks, and the masked flags. -/
theorem raiseSetsTheFlagAndItsMark : Obligations.RaiseSetsTheFlagAndItsMark := fun s f g =>
  ⟨s.raise_flagSet f g, fun m hm => ⟨_, s.raise_marks_of_some hm f, Flag.or_bit_getLsbD m f g⟩,
    fun hm => s.raise_marks_of_none hm f, s.alert_iff⟩
end

section
/-! ## Unknown bytes, and the cut of a transaction -/

namespace Sys2Proof.Machine

/-- A byte outside the command codes of section 11.9 is no command (R175). -/
theorem portCommandOf_of_not_mem {k : Byte} (hk : k ∉ commandCodes) : portCommandOf k = .unknown := by
  simp only [commandCodes, List.mem_cons, List.not_mem_nil, or_false, not_or] at hk
  simp only [portCommandOf, hk, if_false]

/-- Such a byte begins a transaction like a command byte does, with its own result (R174, R175). -/
theorem exec_unknown_command {s : State} {k : Byte} (hst : s.straps ≠ none) (hw : s.port.awaitRise = false)
    (hk : k ∉ commandCodes) :
    exec (.unknown k .command) s = .next (s.beginTransaction .unknown .unknown []) := by
  rw [← State.commandByte_of_straps hst hw]
  exact congrArg Host.Outcome.next (if_pos (portCommandOf_of_not_mem hk))

/-- With RESET_N high the rise of SSN ends the transaction (R174). -/
theorem exec_transactionCut_of_straps {s : State} (hst : s.straps ≠ none) :
    exec .transactionCut s = .next (s.setPort s.port.deselect) :=
  whenDue_of_true (Option.isSome_iff_ne_none.mpr hst) _ _

end Sys2Proof.Machine

open Sys2Proof Sys2Proof.Machine

/-- Settles O53: the two rows, each by what it answers. -/
theorem unknownBytesAndCutsChangeOnlyThePort : Obligations.UnknownBytesAndCutsChangeOnlyThePort := fun _ hst =>
  ⟨fun _ hw hk => exec_unknown_command hst hw hk, exec_transactionCut_of_straps hst⟩
end

section
/-! ## The layout of the configuration record -/

namespace Sys2Proof.Machine

/-- The layout of section 11.9, byte by byte. -/
theorem configBytes_eq (c : ConfigRecord) :
    let hi := fun (x : Half) => x.extractLsb' 8 8
    let lo := fun (x : Half) => x.extractLsb' 0 8
    configBytes c
      = [ hi c.frameLen, lo c.frameLen, c.dead, hi c.dutyMax, lo c.dutyMax, hi c.sampleAt, lo c.sampleAt,
          hi c.shed1, lo c.shed1, hi c.shed2, lo c.shed2, hi c.shed3, lo c.shed3, hi c.shed4, lo c.shed4,
          hi c.shed5, lo c.shed5, hi c.shed6, lo c.shed6, hi c.shed7, lo c.shed7,
          c.shedHyst, c.rosterDepth, c.trimStep, c.trimLimit, c.shareBand, c.ramp, c.holdWords,
          hi c.warmFrames, lo c.warmFrames, c.parkWords, c.ocRun, c.lagMax, c.hkWords,
          hi c.tempTrip, lo c.tempTrip, hi c.tempClear, lo c.tempClear, hi c.vinMin, lo c.vinMin,
          hi c.vinOk, lo c.vinOk, hi c.dmdMin, lo c.dmdMin, hi c.dmdMax, lo c.dmdMax,
          hi c.alertMask, lo c.alertMask ] := by
  delta configBytes
  simp only [twoBytes, List.cons_append, List.nil_append]

theorem configBytes_length (c : ConfigRecord) : (configBytes c).length = 48 := by
  rw [configBytes_eq]
  rfl

/-! A two-byte field and its two bytes, the more significant first. -/

theorem half_of_bytes (x : Half) : x.extractLsb' 8 8 ++ x.extractLsb' 0 8 = x :=
  BitVec.extractLsb'_append_extractLsb' (w := 8) (len := 8)

theorem halfAt_high (d : List Byte) (i : Nat) : (halfAt d i).extractLsb' 8 8 = byteAt d i :=
  BitVec.extractLsb'_append_eq_left

theorem halfAt_low (d : List Byte) (i : Nat) : (halfAt d i).extractLsb' 0 8 = byteAt d (i + 1) :=
  BitVec.extractLsb'_append_eq_right

theorem configOfBytes_configBytes (c : ConfigRecord) : configOfBytes (configBytes c) = c := by
  rw [configBytes_eq]
  cases c
  simp only [configOfBytes, halfAt, byteAt, List.getD_cons_succ, List.getD_cons_zero, half_of_bytes]

/-- The fields follow one another without a gap from offset 0 to offset 47. -/
theorem configBytes_configOfBytes (d : List Byte) :
    configBytes (configOfBytes d) = (List.range 48).map (byteAt d) := by
  rw [configBytes_eq]
  simp only [configOfBytes, halfAt_high, halfAt_low]
  rfl

theorem map_byteAt_range (d : List Byte) : (List.range d.length).map (byteAt d) = d := by
  refine List.ext_getElem (by simp) fun i _ hi => ?_
  simp [byteAt, hi]

end Sys2Proof.Machine

open Sys2Proof Sys2Proof.Machine

/-- Settles O45: a record's fields from their bytes, and 48 bytes from the fields they spell. -/
theorem configurationLayoutRoundTrips : Obligations.ConfigurationLayoutRoundTrips := by
  refine ⟨fun c => ⟨configBytes_length c, configOfBytes_configBytes c, configBytes_eq c⟩, fun d hd => ?_⟩
  rw [configBytes_configOfBytes, ← hd, map_byteAt_range]
end

section
/-! ## The history read -/

namespace Sys2Proof.Machine

theorem oneByte_toNat {w : Nat} (x : BitVec w) : oneByte x.toNat = [x.setWidth 8] := by
  rw [oneByte, BitVec.ofNat_toNat]

theorem twoBytesOf_toNat {w : Nat} (x : BitVec w) : twoBytesOf x.toNat = twoBytes (x.setWidth 16) := by
  rw [twoBytesOf, BitVec.ofNat_toNat]

/-- The presence byte counts a record as won only where it says so (R48, section 11.9). -/
theorem WordRecord.presenceByte_eq (r : WordRecord) :
    r.presenceByte = r.damaged.toNat + 2 * r.ownShare.isSome.toNat + 4 * (r.won == some true).toNat := by
  have hwon : r.won.getD false = (r.won == some true) := by
    rcases r.won with _ | _ | _ <;> rfl
  rw [WordRecord.presenceByte, hwon]

/-- The twelve bytes of a record (section 11.9). -/
theorem WordRecord.toBytes_eq (r : WordRecord) :
    r.toBytes
      = [ r.wordNumber.extractLsb' 8 8, r.wordNumber.extractLsb' 0 8,
          BitVec.ofNat 8 (r.damaged.toNat + 2 * r.ownShare.isSome.toNat + 4 * (r.won == some true).toNat),
          BitVec.ofNat 8 r.halt.number, r.observedMap.getD 0, (r.phaseResult.getD 0).setWidth 8,
          ((r.currentMax.getD 0).setWidth 16).extractLsb' 8 8, ((r.currentMax.getD 0).setWidth 16).extractLsb' 0 8,
          ((r.ownShare.getD 0).setWidth 16).extractLsb' 8 8, ((r.ownShare.getD 0).setWidth 16).extractLsb' 0 8,
          r.rosterAfter, BitVec.ofNat 8 r.stateAfter.number ] := by
  rw [WordRecord.toBytes, WordRecord.presenceByte_eq, oneByte_toNat, twoBytesOf_toNat, twoBytesOf_toNat]
  rfl

/-- The command byte of READ_HISTORY at an open port (R183). -/
theorem exec_readHistory_command {s : State} (ho : s.portOpen = true) :
    exec (.readHistory .command) s = .next s.fixRecords :=
  congrArg Host.Outcome.next (if_pos ho)

end Sys2Proof.Machine

open Sys2Proof Sys2Proof.Machine

/-- Settles O50: the records at the command byte, and what is left of them at the count byte. -/
theorem historyReadReturnsAndRemovesTheRecords : Obligations.HistoryReadReturnsAndRemovesTheRecords := by
  intro s hst hw
  have hopen : s.portOpen = true := State.portOpen_iff.mpr ⟨hst, hw⟩
  refine ⟨?_, fun t sdi ht hc hr hb => ?_⟩
  · intro bytes
    have hbytes : WordRecord.toBytes = bytes := by
      funext r
      refine r.toBytes_eq.trans ?_
      simp only [bytes]
      cases r.halt <;> rfl
    rw [exec_readHistory_command hopen, ← hbytes]
    rfl
  · exact congrArg Host.Outcome.next (State.laterByte_of_firstDataByte hopen ht hc hr hb drainHistory)
end

section
/-! ## The later bytes of a transaction -/

namespace Sys2Proof.Machine

/-- One more byte completed, with `out` on SDO, and nothing else (R174). -/
def State.shifted (s : State) (t : Transaction) (out : Byte) : State :=
  { s with port := { s.port with sdo := some out, txn := some { t with bytes := t.bytes + 1 } } }

theorem State.advanceByte_eq (s : State) (t : Transaction) :
    s.advanceByte t = s.shifted t (t.shiftOut (t.bytes + 1)) := rfl

namespace Transaction

variable {t : Transaction}

/-- An accepted transaction shifts out 0x80, and then its data (R174, R175). -/
theorem shiftOut_of_accepted (hr : t.result = .accepted) :
    t.shiftOut (t.bytes + 1) = if t.bytes = 1 then 0x80 else t.out.getD (t.bytes - 2) 0x00 := by
  have hsub : t.bytes + 1 - 3 = t.bytes - 2 := by omega
  simp [shiftOut, hr, hsub, ResultCode.byte]

/-- Any other transaction shifts out its result code, and then 0x00 (R174, R175). -/
theorem shiftOut_of_refused (hr : t.result ≠ .accepted) :
    t.shiftOut (t.bytes + 1) = if t.bytes = 1 then t.result.byte else 0x00 := by
  simp [shiftOut, hr]

/-- A transaction without data shifts out 0x00 after its result byte (R174). -/
theorem shiftOut_of_no_data (ho : t.out = []) (hb : 2 ≤ t.bytes) : t.shiftOut (t.bytes + 1) = 0x00 := by
  have hne : t.bytes ≠ 1 := by omega
  simp [shiftOut, ho, hne]

end Transaction

/-! Effects that a byte does not take (R174). -/

theorem atByte_of_not_accepted {t : Transaction} (hr : t.result ≠ .accepted) (n : Nat)
    (effect : Transaction → State → State) (s : State) : atByte n effect t s = s :=
  if_neg fun ⟨h, _⟩ => hr h

theorem atByte_of_ne {t : Transaction} {n : Nat} (hn : t.bytes + 1 ≠ n) (effect : Transaction → State → State)
    (s : State) : atByte n effect t s = s :=
  if_neg fun ⟨_, h⟩ => hn h

theorem keepByte_of_not_accepted {t : Transaction} (hr : t.result ≠ .accepted) (sdi : Byte) (s : State) :
    keepByte sdi t s = s :=
  if_neg fun ⟨h, _⟩ => hr h

/-- A byte of the transaction in progress that takes no effect is only shifted (R174). -/
theorem State.laterByte_shifted {s : State} {t : Transaction} {cmd : PortCommand} (ho : s.portOpen = true)
    (ht : s.port.txn = some t) (hc : t.cmd = cmd) {effect : Transaction → State → State}
    (he : ∀ u, effect t u = u) : s.laterByte cmd effect = s.shifted t (t.shiftOut (t.bytes + 1)) := by
  rw [State.laterByte_of_txn ho ht hc, he, State.advanceByte_eq]

end Sys2Proof.Machine

open Sys2Proof Sys2Proof.Machine

/-- Settles O44: what the byte shifts out by the result, and that it takes no effect: the reads away from their first
data byte, a command that was not accepted, and an accepted one past its result byte. -/
theorem laterBytesShiftTheResultAndTheData : Obligations.LaterBytesShiftTheResultAndTheData := by
  intro s t sdi k hst hw ht _ shifted code data dry
  have hshift {cmd : PortCommand} {effect : Transaction → State → State} {out : Byte}
      (hout : t.shiftOut (t.bytes + 1) = out) (he : ∀ u, effect t u = u) (hc : t.cmd = cmd) :
      done (s.laterByte cmd effect) = .next (shifted out) := by
    subst hout
    exact congrArg Host.Outcome.next (State.laterByte_shifted (State.portOpen_iff.mpr ⟨hst, hw⟩) ht hc he)
  refine ⟨fun hr => ?reads, fun hr => ?refused, fun hr hpast hnone => ?past⟩
  case reads =>
    have hdata : t.shiftOut (t.bytes + 1) = data := Transaction.shiftOut_of_accepted hr
    have haway (hne : t.bytes ≠ 2) (effect : Transaction → State → State) (u : State) : atByte 3 effect t u = u :=
      atByte_of_ne (by omega) effect u
    exact ⟨hshift hdata fun _ => rfl, hshift hdata fun _ => rfl, hshift hdata fun _ => rfl,
      fun hc hne => hshift hdata (haway hne _) hc, fun hc hne => hshift hdata (haway hne _) hc⟩
  case refused =>
    have hcode : t.result.byte = code := by
      simp only [code]
      cases t.result <;> rfl
    have hdry : t.shiftOut (t.bytes + 1) = dry := by rw [Transaction.shiftOut_of_refused hr, hcode]
    have hnone (n : Nat) (effect : Transaction → State → State) (u : State) : atByte n effect t u = u :=
      atByte_of_not_accepted hr n effect u
    exact ⟨hshift hdry fun u => (hnone 50 _ _).trans (keepByte_of_not_accepted hr sdi u), hshift hdry (hnone 2 _),
      hshift hdry (hnone 2 _), hshift hdry (hnone 2 _), hshift hdry (hnone 2 _), hshift hdry fun _ => rfl⟩
  case past =>
    have hempty : t.shiftOut (t.bytes + 1) = 0x00 := Transaction.shiftOut_of_no_data hnone hpast
    have hdone (effect : Transaction → State → State) (u : State) : atByte 2 effect t u = u :=
      atByte_of_ne (by omega) effect u
    exact ⟨hshift hempty (hdone _), hshift hempty (hdone _), hshift hempty (hdone _), hshift hempty (hdone _)⟩
end

section
/-! ## WRITE_CONFIG -/

namespace Sys2Proof.Machine

/-- WRITE_CONFIG is for a station in SETUP with AUTO low (R176). -/
theorem State.setupByHost_iff {s : State} {x : Straps} (hx : s.straps = some x) :
    s.setupByHost = true ↔ s.ctl.state = .setup ∧ x.auto = false := by
  simp [State.setupByHost, State.autoHigh, hx]

/-- A data byte of an accepted transaction is kept (R174, R177). -/
theorem keepByte_of_data {t : Transaction} {s : State} (hr : t.result = .accepted) (hb : 2 ≤ t.bytes)
    (hb' : t.bytes ≤ 49) (sdi : Byte) :
    keepByte sdi t s
      = s.setPort
        { s.port with txn := s.port.txn.map (fun u => { u with received := u.received ++ [sdi] }) } :=
  if_pos ⟨hr, by omega, by omega⟩

theorem keepByte_of_no_data {t : Transaction} {s : State} (hb : t.bytes < 2 ∨ 49 < t.bytes) (sdi : Byte) :
    keepByte sdi t s = s :=
  if_neg fun ⟨_, h, h'⟩ => by omega

/-- The effect point of an accepted WRITE_CONFIG in SETUP (R177). -/
theorem atByte_replaceRecord {t : Transaction} {s : State} (hr : t.result = .accepted) (hb : t.bytes = 49)
    (hs : s.ctl.state = .setup) (sdi : Byte) :
    atByte 50 (replaceRecord sdi) t s
      = s.setPort { s.port with config := configOfBytes (t.received ++ [sdi]) } :=
  (if_pos ⟨hr, by omega⟩).trans (if_pos hs)

/-- A later byte of a WRITE_CONFIG without data to return is shifted, then kept, and then it may complete the record
(R174, R177). -/
theorem exec_writeConfig_later {s : State} {t : Transaction} (ho : s.portOpen = true) (ht : s.port.txn = some t)
    (hc : t.cmd = .writeConfig) (sdi : Byte) :
    exec (.writeConfig (.later sdi)) s
      = .next (atByte 50 (replaceRecord sdi) t (keepByte sdi t (s.shifted t (t.shiftOut (t.bytes + 1))))) :=
  congrArg Host.Outcome.next (State.laterByte_of_txn ho ht hc _)

end Sys2Proof.Machine

open Sys2Proof Sys2Proof.Machine

/-- Settles O46: the command byte by the station's state, and a later byte by its place in the transaction. -/
theorem writeConfigReplacesTheRecord : Obligations.WriteConfigReplacesTheRecord := by
  intro s x hx hw
  have hopen : s.portOpen = true := State.portOpen_iff.mpr ⟨by simp [hx], hw⟩
  refine ⟨?_, fun t sdi ht hc hr ho _ => ?_⟩
  · intro allowed
    have hresult : acceptedIf s.setupByHost = if allowed then .accepted else .refusedState :=
      if_congr (State.setupByHost_iff hx) rfl rfl
    rw [← hresult]
    exact congrArg Host.Outcome.next (s.commandByte_of_open hopen _ _ _)
  · intro shifted kept
    rw [exec_writeConfig_later hopen ht hc]
    refine ⟨fun h1 => ?result, fun h2 h49 => ?data, fun h49 hs => ?last, fun h50 => ?past⟩
    case result =>
      rw [atByte_of_ne (by omega), keepByte_of_no_data (by omega), Transaction.shiftOut_of_accepted hr, if_pos h1]
      rfl
    case data =>
      rw [atByte_of_ne (by omega), keepByte_of_data hr h2 (by omega), Transaction.shiftOut_of_no_data ho h2]
      rfl
    case last =>
      rw [keepByte_of_data hr (by omega) (by omega), atByte_replaceRecord hr h49 (by exact hs),
        Transaction.shiftOut_of_no_data ho (by omega)]
      rfl
    case past =>
      rw [atByte_of_ne (by omega), keepByte_of_no_data (by omega), Transaction.shiftOut_of_no_data ho (by omega)]
      rfl
end

section
/-! ## Flags that stand in every event -/

namespace Sys2Proof.Machine

namespace State.FlagsStand

variable {b s t : State}

theorem refl (s : State) : s.FlagsStand s := fun _ hf => hf

/-- What leaves the port alone leaves the flags standing. -/
theorem congr (h : b.FlagsStand s) (hp : t.port = s.port) : b.FlagsStand t :=
  h.trans (of_flags (congrArg PortUnit.flags hp))

theorem ite {c : Prop} [Decidable c] (ht : c → b.FlagsStand t) (hs : ¬c → b.FlagsStand s) :
    b.FlagsStand (if c then t else s) :=
  iteInduction (motive := b.FlagsStand) ht hs

section
variable (h : b.FlagsStand s)
include h

theorem setFrame (f : FrameUnit) : b.FlagsStand (s.setFrame f) := h.congr rfl
theorem setExch (e : ExchangeUnit) : b.FlagsStand (s.setExch e) := h.congr rfl
theorem setGen (g : PhaseGenerator) : b.FlagsStand (s.setGen g) := h.congr rfl
theorem setDmd (d : DemandMonitor) : b.FlagsStand (s.setDmd d) := h.congr rfl

/-! ### The station controller and the word -/

theorem declareFault (c : FaultCause) : b.FlagsStand (s.declareFault c) := by
  unfold State.declareFault
  split
  · exact h
  · exact ite (fun _ => (h.setFrame _).trans (enterFault _ c 0)) fun _ => h
  · exact h.trans (raise s _)
  · exact h.trans (enterFault s c _)

theorem readHalt : b.FlagsStand s.readHalt := by
  have hseen := h.trans (raise s .haltSeen)
  unfold State.readHalt
  dsimp only
  split
  iterate 4 exact hseen.congr (State.enterHold_port _)
  · exact hseen.congr rfl
  · exact hseen

theorem closeWord : b.FlagsStand s.closeWord := by
  have hdamaged : b.FlagsStand (s.closeExchange.raiseIf s.exch.record.damaged .damagedWord) :=
    (h.congr s.closeExchange_port).trans (raiseIf _ _ _)
  have hcensus : b.FlagsStand s.censusClose := (hdamaged.trans (closeRoster _ s.exch.record)).congr rfl
  exact (hcensus.trans (closeState _ _)).trans s.closeWord_flagsStand

theorem enterBit (i : Nat) (r : ReadBit) : b.FlagsStand (s.enterBit i r) := by
  refine ite (fun _ => ite (fun _ => h.congr rfl) fun _ => (h.setExch _).readHalt) fun _ =>
    ite (fun _ => ?census) fun _ => ite (fun _ => h.congr rfl) fun _ => h.congr rfl
  case census =>
    exact ite (fun _ => h.congr rfl) fun _ => ite (fun _ => h.declareFault .duplicate) fun _ => h

theorem bitTime (i : Nat) (r : ReadBit) : b.FlagsStand (s.bitTime i r) :=
  (h.setExch _).enterBit i r

/-! ### The frame line -/

theorem startFrame (i : Fin 30) : b.FlagsStand (s.startFrame i) := by
  have hwaited : b.FlagsStand s.takeWait :=
    ite (fun _ => (h.setFrame _).trans (raiseIf _ _ _)) fun _ => h.congr rfl
  exact hwaited.congr (by simp [State.startFrame])

theorem riseTail : b.FlagsStand s.riseTail := by
  unfold State.riseTail
  split
  · exact ite (fun _ => h.congr rfl) fun _ => h.startFrame _
  · exact h

theorem alignedRise : b.FlagsStand s.alignedRise := by
  have hjudged : b.FlagsStand s.judgeCutFrame := ite (fun _ => h.bitTime _ _) fun _ => h
  have hclosed : b.FlagsStand s.judgeCutFrame.takeDueClose := ite (fun _ => hjudged.closeWord) fun _ => hjudged
  rw [State.alignedRise_eq]
  exact hclosed.riseTail

theorem markError : b.FlagsStand s.markError := by
  have hnoted : b.FlagsStand s.noteMarkError := (h.trans (raise s .markError)).congr rfl
  rw [State.markError_eq]
  exact ite (fun _ => hnoted.congr (State.rejoin_port _ false)) fun _ => hnoted

theorem classifyNormal : b.FlagsStand s.classifyNormal :=
  ite (fun _ => (h.setFrame _).markError) fun _ => h.congr rfl

theorem classifyMark : b.FlagsStand s.classifyMark := by
  have hmarked : b.FlagsStand s.marked := h.congr rfl
  rw [State.classifyMark_eq]
  exact ite (fun _ => ite (fun _ => hmarked.congr (State.align_port _)) fun _ => hmarked) fun _ =>
    ite (fun _ => hmarked.markError) fun _ => hmarked

theorem fall : b.FlagsStand s.fall := by
  have hfallen : b.FlagsStand s.fallen := h.congr s.latchHigh_port
  have hjudged : b.FlagsStand s.judgedFall := ite (fun _ => hfallen.classifyNormal) fun _ => hfallen
  rw [State.fall_eq]
  exact ite (fun _ => hjudged.congr rfl) fun _ => hjudged

theorem followFall : b.FlagsStand s.followFall :=
  ite (fun _ => h.classifyMark.fall) fun _ => h.fall

/-! ### The phase generator -/

theorem countTruncated : b.FlagsStand s.countTruncated :=
  ite (fun _ => (h.setGen _).declareFault .overcurrent) fun _ => h.congr rfl

theorem takeOnPoint : b.FlagsStand s.takeOnPoint := by
  have hlatched : b.FlagsStand (s.resumeLg.setGen (s.resumeLg.gen.latch s.latchedDuty)) := h.congr s.resumeLg_port
  have hpulse : b.FlagsStand (s.resumeLg.setGen (s.resumeLg.gen.latch s.latchedDuty)).takePulse :=
    ite (fun _ => ite (fun _ => hlatched.countTruncated) fun _ => hlatched.congr rfl) fun _ => hlatched
  exact hpulse.congr (State.resumeLg_port _)

theorem cutByOci : b.FlagsStand s.cutByOci :=
  ite (fun _ => (h.setGen _).countTruncated) fun _ => h.congr rfl

/-! ### The measurement unit and the demand monitor -/

theorem takeTemperature (code : Reading) : b.FlagsStand (s.takeTemperature code) :=
  ite (fun _ => (h.trans (setMeas _ _)).declareFault .overtemp) fun _ =>
    ite (fun _ => h.congr rfl) fun _ => h.congr rfl

theorem takeVoltage (code : Reading) : b.FlagsStand (s.takeVoltage code) := by
  refine ite (fun _ => ?_) fun _ => ite (fun _ => h.congr rfl) fun _ => h.congr rfl
  exact ((h.trans (setMeas _ _)).trans (raise _ .undervolt)).congr (State.addCause_port _ _)

theorem takeResult (c : Conversion) (code : Reading) : b.FlagsStand (s.takeResult c code) := by
  have hidled := h.trans (setMeas s { s.meas with conv := none })
  unfold State.takeResult
  dsimp only
  split
  · exact hidled.congr (State.takeCurrent_port _ _ _)
  · exact hidled.takeTemperature code
  · exact hidled.takeVoltage code

theorem badPeriod : b.FlagsStand s.badPeriod := by
  refine ite (fun _ => ?_) fun _ => h.congr rfl
  exact (((h.setDmd _).setDmd _).trans (raise _ .demandLost)).congr (State.addCause_port _ _)

theorem judgePeriod (p : Nat) : b.FlagsStand (s.judgePeriod p) :=
  ite (fun _ => h.congr (State.goodPeriod_port _ _)) fun _ => h.badPeriod

end

/-! ### Every event -/

theorem whenDue {x : Bool} {after : State} (e : whenDue x s after = .next t) (ha : s.FlagsStand after) :
    s.FlagsStand t := by
  obtain rfl | ⟨-, rfl⟩ := eq_or_of_whenDue e
  · exact refl t
  · exact ha

/-- An event of the station or of its lines clears no flag (R180). -/
theorem exec_event {c : Instr} (hc : c.isEvent = true) (e : exec c s = .next t) : s.FlagsStand t := by
  have h := refl s
  cases c with
  | frameStart =>
    refine whenDue e (ite (fun _ => h.congr rfl) fun _ => ite (fun _ => ?_) fun _ => h.congr rfl)
    exact State.FlagsStand.alignedRise (s := s.qualifyFrm true) (h.setFrame _)
  | frameFallingEdge => exact whenDue e (ite (fun _ => h.followFall) fun _ => h.congr rfl)
  | markClassified => exact whenDue e h.classifyMark
  | ownEnd =>
    exact whenDue e (ite (fun _ => h.congr rfl) fun _ =>
      ite (fun _ => h.congr (State.announceEnd_port _)) fun _ => h.congr (State.startStuck_port _))
  | stuck => exact whenDue e (ite (fun _ => (raise s .stuck).congr rfl) fun _ => (raise s .stuck).congr rfl)
  | listenStuckDeclared => exact whenDue e ((raise s .stuck).congr rfl)
  | founding => exact whenDue e (h.congr s.found_port)
  | freeRunFrame =>
    have hcounted := (h.setFrame { s.frame with counter := 0 }).trans (setMeas _ { s.meas with freeFrames := 0 })
    exact whenDue e (ite (fun _ => hcounted.trans (stepTally _)) fun _ => h.congr rfl)
  | drivePoint => exact whenDue e (h.congr (s.driveFrame_port _))
  | bitTime sample => exact whenDue e ((h.setExch _).bitTime _ _)
  | wordClose => exact whenDue e h.closeWord
  | housekeepingPace => exact whenDue e ((h.trans (setMeas _ _)).trans (stepTally _))
  | warmUpComplete => exact whenDue e (ite (fun _ => h.congr (by simp)) fun _ => h.congr (s.enterDecision_port _))
  | onPoint =>
    have howed : s.FlagsStand s.takeOwedPoint :=
      ite (fun _ => (h.setGen _).trans (raise _ .overcurrent)) fun _ => h.setGen _
    obtain rfl := Host.Outcome.next.inj e
    exact ite (fun _ => h.takeOnPoint) fun _ => ite (fun _ => howed) fun _ => h
  | currentTrigger => exact whenDue e (ite (fun _ => h.congr rfl) fun _ => h.congr rfl)
  | ociAssert =>
    have hhigh : s.FlagsStand (s.setGen { s.gen with oci := Filter.settle 2 true }) := h.setGen _
    refine whenDue e (ite (fun _ => hhigh.cutByOci) fun _ => ite (fun _ => ?_) fun _ => hhigh)
    exact (hhigh.setGen _).trans (raise _ .overcurrent)
  | conversionComplete code =>
    refine whenDue e ?_
    split
    · exact (h.takeResult _ code).congr (State.startConversion_port _)
    · exact h
  | dmdActiveEdge =>
    refine whenDue e (congr (s := if s.dmd.cond = .opened then _ else s) ?_ rfl)
    exact ite (fun _ => (h.setDmd _).judgePeriod _) fun _ => h
  | dmdTimeout => exact whenDue e ((h.setDmd _).badPeriod)
  | frmFirstQualifiedLevel high => exact whenDue e (ite (fun _ => h.congr rfl) fun _ => h.congr rfl)
  | pullPoint | leadPoint | pulseEnd | deadTimeRunOut | dmdInactiveEdge => exact whenDue e (h.congr rfl)
  | _ => simp [Instr.isEvent] at hc

end State.FlagsStand

end Sys2Proof.Machine
end

section
/-! ## What the rows of the port and of reset do to the flags -/

namespace Sys2Proof.Machine

/-- The effect point of a READ_STATUS is due: the next byte of an accepted one is its first data byte (R181). -/
def State.AtStatusEffect (s : State) (c : Instr) (x : Transaction) : Prop :=
  (∃ sdi, c = .readStatus (.later sdi)) ∧ s.port.txn = some x ∧ x.cmd = .readStatus ∧ x.result = .accepted
    ∧ x.bytes = 2

theorem flags_ite {c : Prop} [Decidable c] {s a b : State} (ha : a.port.flags = s.port.flags)
    (hb : b.port.flags = s.port.flags) : (if c then a else b).port.flags = s.port.flags :=
  iteInduction (motive := fun u : State => u.port.flags = s.port.flags) (fun _ => ha) (fun _ => hb)

theorem State.commandByte_flags (s : State) (cmd : PortCommand) (r : ResultCode) (out : List Byte) :
    (s.commandByte cmd r out).port.flags = s.port.flags :=
  flags_ite rfl rfl

/-- A later byte leaves the flags to what the byte does (R174). -/
theorem State.laterByte_flags {s : State} {cmd : PortCommand} {effect : Transaction → State → State}
    (he : ∀ x u, (effect x u).port.flags = u.port.flags) : (s.laterByte cmd effect).port.flags = s.port.flags := by
  unfold State.laterByte
  split
  · exact flags_ite (he _ _) rfl
  · rfl

theorem atByte_flags {n : Nat} {effect : Transaction → State → State}
    (he : ∀ x u, (effect x u).port.flags = u.port.flags) (x : Transaction) (u : State) :
    (atByte n effect x u).port.flags = u.port.flags :=
  flags_ite (he x u) rfl

/-- A later byte of READ_STATUS clears what its snapshot showed, less what was raised since, at its effect point and
nothing at any other byte (R181). -/
theorem exec_readStatus_flags {s t : State} {sdi : Byte} (e : exec (.readStatus (.later sdi)) s = .next t) :
    t.port.flags = s.port.flags
      ∨ ∃ x, s.AtStatusEffect (.readStatus (.later sdi)) x ∧ t.port.flags = (s.port.clearShown x.shown).flags := by
  obtain rfl := Host.Outcome.next.inj e
  unfold State.laterByte
  split
  next x hx =>
    split
    next ho =>
      obtain ⟨-, hc⟩ := Bool.and_eq_true_iff.mp ho
      by_cases heffect : x.result = .accepted ∧ x.bytes + 1 = 3
      · obtain ⟨hr, hb⟩ := heffect
        refine .inr ⟨x, ⟨⟨sdi, rfl⟩, hx, beq_iff_eq.mp hc, hr, by omega⟩, ?_⟩
        rw [atByte, if_pos ⟨hr, hb⟩]
        rfl
      · refine .inl ?_
        rw [atByte, if_neg heffect]
        rfl
    next => exact .inl rfl
  next => exact .inl rfl

/-- Of the rows of the port and of reset only RESET and the effect point of a READ_STATUS touch the flags. -/
theorem exec_port_flags {s t : State} {c : Instr} (hc : c.isEvent = false) (e : exec c s = .next t) :
    t.port.flags = s.port.flags ∨ c = .reset ∧ t.port.flags = 0
      ∨ ∃ x, s.AtStatusEffect c x ∧ t.port.flags = (s.port.clearShown x.shown).flags := by
  have hcommand := s.commandByte_flags
  have hsilent (cmd : PortCommand) : (s.laterByte cmd noEffect).port.flags = s.port.flags :=
    State.laterByte_flags fun _ _ => rfl
  have heffect {cmd : PortCommand} {n : Nat} {effect : Transaction → State → State}
      (he : ∀ x u, (effect x u).port.flags = u.port.flags) :
      (s.laterByte cmd (atByte n effect)).port.flags = s.port.flags :=
    State.laterByte_flags (atByte_flags he)
  have hdone {after : State} (e : done after = .next t) (ha : after.port.flags = s.port.flags) :
      t.port.flags = s.port.flags := Host.Outcome.next.inj e ▸ ha
  cases c with
  | reset => exact .inr (.inl ⟨rfl, by rw [← Host.Outcome.next.inj e]; rfl⟩)
  | resetRelease x low =>
    have hstarted : (s.sampleStraps x low).startStation.port.flags = s.port.flags :=
      (congrArg PortUnit.flags (s.sampleStraps x low).startStation_port).trans rfl
    exact .inl (hdone e (flags_ite (flags_ite hstarted rfl) rfl))
  | ident byte | readConfig byte | readRoster byte =>
    cases byte with
    | command => exact .inl (hdone e (hcommand _ _ _))
    | later sdi => exact .inl (hdone e (hsilent _))
  | writeConfig byte =>
    cases byte with
    | command => exact .inl (hdone e (hcommand _ _ _))
    | later sdi =>
      have hkept (x : Transaction) (u : State) : (keepByte sdi x u).port.flags = u.port.flags := flags_ite rfl rfl
      have hreplaced (x : Transaction) (u : State) : (replaceRecord sdi x u).port.flags = u.port.flags :=
        flags_ite rfl rfl
      exact .inl (hdone e (State.laterByte_flags fun x u => (atByte_flags hreplaced x _).trans (hkept x u)))
  | readStatus byte =>
    cases byte with
    | command => exact .inl (hdone e (flags_ite rfl rfl))
    | later sdi => exact (exec_readStatus_flags e).imp_right .inr
  | readHistory byte =>
    cases byte with
    | command => exact .inl (hdone e (flags_ite rfl rfl))
    | later sdi => exact .inl (hdone e (heffect fun _ _ => rfl))
  | start byte =>
    cases byte with
    | command => exact .inl (hdone e (hcommand _ _ _))
    | later sdi => exact .inl (hdone e (heffect fun _ u => congrArg PortUnit.flags u.startStation_port))
  | aside byte =>
    cases byte with
    | command => exact .inl (hdone e (hcommand _ _ _))
    | later sdi =>
      exact .inl (hdone e (heffect fun _ u => flags_ite rfl (congrArg PortUnit.flags (u.addCause_port _))))
  | ret byte | clearFault byte =>
    cases byte with
    | command => exact .inl (hdone e (hcommand _ _ _))
    | later sdi => exact .inl (hdone e (heffect fun _ _ => rfl))
  | unknown code byte =>
    cases byte with
    | command => exact .inl (hdone e (flags_ite (hcommand _ _ _) rfl))
    | later sdi => exact .inl (hdone e (hsilent _))
  | transactionCut => exact .inl (hdone e (flags_ite rfl rfl))
  | _ => simp [Instr.isEvent] at hc

/-- A flag that the snapshot did not show stands through the effect point (R181). -/
theorem PortUnit.clearShown_not_shown {p : PortUnit} {shown : FlagSet} {i : Nat} (hi : p.flags.getLsbD i = true)
    (hs : shown.getLsbD i = false) : (p.clearShown shown).flags.getLsbD i = true := by
  simp [PortUnit.clearShown, hi, BitVec.lt_of_getLsbD hi, -BitVec.getLsbD_eq_getElem, hs]

/-- The effect point sets no flag. -/
theorem PortUnit.clearShown_clear {p : PortUnit} {i : Nat} (hi : p.flags.getLsbD i = false) (shown : FlagSet) :
    (p.clearShown shown).flags.getLsbD i = false := by
  simp [PortUnit.clearShown, hi]

/-- A step on an empty queue leaves the flags (log 1). -/
theorem State.idle_flags (s : State) : s.idle.port.flags = s.port.flags := by
  unfold State.idle
  split
  · exact flags_ite rfl rfl
  · rfl
  · rfl

/-- Only RESET and the effect point of a READ_STATUS that showed the flag clear it (R180, R181). -/
theorem exec_clears {s t : State} {c : Instr} {f : Flag} (e : exec c s = .next t) (hs : s.flagSet f = true)
    (ht : t.flagSet f = false) :
    c = .reset ∨ ∃ x, s.AtStatusEffect c x ∧ x.shown.getLsbD f.number = true := by
  have hne : t.flagSet f ≠ true := by simp [ht]
  cases hc : c.isEvent with
  | true => exact absurd (State.FlagsStand.exec_event hc e f hs) hne
  | false =>
    obtain hsame | ⟨hreset, -⟩ | ⟨x, hx, hcleared⟩ := exec_port_flags hc e
    · exact absurd (State.FlagsStand.of_flags hsame f hs) hne
    · exact .inl hreset
    · refine .inr ⟨x, hx, ?_⟩
      by_contra hshown
      refine hne ?_
      rw [State.flagSet, hcleared]
      exact PortUnit.clearShown_not_shown hs (Bool.eq_false_iff.mpr hshown)

/-- In SETUP no command sets a flag: no event changes anything there, and the rows of the port raise none (R79). -/
theorem exec_sets_none_in_setup {s t : State} {c : Instr} {f : Flag} (e : exec c s = .next t)
    (hsetup : s.ctl.state = .setup) (htaking : s.frame.takingPart = false) (hpulse : s.gen.inFlight = false)
    (hs : s.flagSet f = false) : t.flagSet f = false := by
  cases hc : c.isEvent with
  | true =>
    rw [exec_event_in_setup hsetup htaking hpulse c hc] at e
    exact Host.Outcome.next.inj e ▸ hs
  | false =>
    obtain hsame | ⟨-, hzero⟩ | ⟨x, -, hcleared⟩ := exec_port_flags hc e
    · rwa [State.flagSet, hsame]
    · rw [State.flagSet, hzero]
      exact BitVec.getLsbD_zero
    · rw [State.flagSet, hcleared]
      exact PortUnit.clearShown_clear hs x.shown

end Sys2Proof.Machine

open Sys2Proof Sys2Proof.Machine

/-- Settles O19: the raise by its bits, and what a command, a reset and a step on an empty queue do to the flags. -/
theorem flagsStandUntilAStatusReadReturnsThem : Obligations.FlagsStandUntilAStatusReadReturnsThem := by
  intro f s
  have hbit (m : FlagSet) : (m ||| f.bit).getLsbD f.number = true := by
    rw [Flag.or_bit_getLsbD]
    simp
  refine ⟨⟨?flag, fun m hm => ⟨_, State.raise_marks_of_some hm f, hbit m⟩, hbit s.port.raisedNow⟩,
    fun c t e hs ht => ?clears, ⟨_, rfl, rfl⟩, fun t hq e => ?idle, fun c t e => exec_sets_none_in_setup e⟩
  case flag =>
    rw [State.raise_flagSet]
    simp
  case clears =>
    refine (exec_clears e hs ht).imp_right fun ⟨x, ⟨⟨sdi, hc⟩, hx, hcmd, hr, hb⟩, hshown⟩ => ?_
    exact ⟨sdi, x, hc, hx, hcmd, hr, hb, hshown⟩
  case idle =>
    rw [step_of_pending_nil hq] at e
    rw [← Host.Outcome.next.inj e, State.idle_flags]
end

section
/-! ## The queue, the outside and the completion of a command -/

namespace Sys2Proof.Machine

/-- With a command at the front of the queue a step is that command on the queue's rest (log 2). -/
theorem step_of_pending_cons {s : State} {c : Instr} {rest : List Instr} (h : s.pending = c :: rest) :
    step s = exec c (s.setPending rest) := by
  unfold step
  rw [h]

@[simp] theorem State.setPending_setPending (s : State) (q r : List Instr) :
    (s.setPending q).setPending r = s.setPending r := rfl

/-- What no command touches: the queue, the unit number, the levels at the input pins and the counter of free choices
(logs 2 to 5). -/
def State.outside (s : State) : List Instr × Half × Inputs × Nat := (s.pending, s.unitNumber, s.inputs, s.choices)

theorem State.outside_eq_iff {s t : State} :
    t.outside = s.outside
      ↔ t.pending = s.pending ∧ t.unitNumber = s.unitNumber ∧ t.inputs = s.inputs ∧ t.choices = s.choices := by
  simp [State.outside]

/-- An outcome is a next state with the same outside. -/
def State.Completes (s : State) (o : Host.Outcome State Fault Refusal) : Prop :=
  ∃ t, o = .next t ∧ t.outside = s.outside

theorem outside_ite {p : Prop} [Decidable p] {s a b : State} (ha : a.outside = s.outside)
    (hb : b.outside = s.outside) : (if p then a else b).outside = s.outside :=
  iteInduction (motive := fun u : State => u.outside = s.outside) (fun _ => ha) (fun _ => hb)

namespace State.Completes

variable {s after : State}

theorem done (ha : after.outside = s.outside) : s.Completes (Machine.done after) := ⟨after, rfl, ha⟩

/-- A row that is not due completes with the same state (log 7), so only what it does when due counts. -/
theorem whenDue (b : Bool) (ha : after.outside = s.outside) : s.Completes (Machine.whenDue b s after) :=
  ⟨_, rfl, outside_ite ha rfl⟩

/-- Every event of the station and its lines completes. -/
theorem exec_event {c : Instr} (hc : c.isEvent = true) : s.Completes (Machine.exec c s) := by
  cases c with
  | frameStart =>
    refine whenDue _ (outside_ite rfl (outside_ite ?_ rfl))
    simp [State.outside]
  | frameFallingEdge =>
    refine whenDue _ (outside_ite ?_ rfl)
    simp [State.outside]
  | ownEnd => refine whenDue _ (outside_ite rfl (outside_ite ?_ ?_)) <;> simp [State.outside]
  | freeRunFrame =>
    refine whenDue _ (outside_ite ?_ rfl)
    simp [State.outside]
  | warmUpComplete => refine whenDue _ (outside_ite ?_ ?_) <;> simp [State.outside]
  | onPoint => refine done (outside_ite ?_ (outside_ite ?_ rfl)) <;> simp [State.outside]
  | ociAssert => refine whenDue _ (outside_ite ?_ (outside_ite ?_ rfl)) <;> simp [State.outside]
  | conversionComplete code =>
    refine whenDue _ ?_
    split
    · simp [State.outside]
    · rfl
  | dmdActiveEdge =>
    have hjudged (u : State) : (u.judgePeriod s.dmd.capture).outside = u.outside := by simp [State.outside]
    exact whenDue _ (outside_ite (hjudged _) rfl)
  | markClassified | founding | drivePoint | bitTime _ | wordClose | housekeepingPace | dmdTimeout =>
    exact whenDue _ (by simp [State.outside])
  | stuck | currentTrigger | frmFirstQualifiedLevel _ => exact whenDue _ (outside_ite rfl rfl)
  | pullPoint | listenStuckDeclared | leadPoint | pulseEnd | deadTimeRunOut | dmdInactiveEdge =>
    exact whenDue _ rfl
  | _ => simp [Instr.isEvent] at hc

end State.Completes

/-! ### A byte at the setup port -/

theorem State.commandByte_outside (s : State) (cmd : PortCommand) (r : ResultCode) (out : List Byte) :
    (s.commandByte cmd r out).outside = s.outside :=
  outside_ite rfl rfl

/-- A later byte leaves the outside to what the byte does (R174). -/
theorem State.laterByte_outside {s : State} {cmd : PortCommand} {effect : Transaction → State → State}
    (he : ∀ x u, (effect x u).outside = u.outside) : (s.laterByte cmd effect).outside = s.outside := by
  unfold State.laterByte
  split
  · exact outside_ite (he _ _) rfl
  · rfl

theorem atByte_outside {n : Nat} {effect : Transaction → State → State}
    (he : ∀ x u, (effect x u).outside = u.outside) (x : Transaction) (u : State) :
    (atByte n effect x u).outside = u.outside :=
  outside_ite (he x u) rfl

theorem keepByte_outside (sdi : Byte) (x : Transaction) (s : State) : (keepByte sdi x s).outside = s.outside :=
  outside_ite rfl rfl

theorem replaceRecord_outside (sdi : Byte) (x : Transaction) (s : State) :
    (replaceRecord sdi x s).outside = s.outside :=
  outside_ite rfl rfl

theorem State.startStation_outside (s : State) : s.startStation.outside = s.outside := by simp [State.outside]

theorem takeAside_outside (x : Transaction) (s : State) : (takeAside x s).outside = s.outside :=
  outside_ite rfl (by simp [State.outside])

namespace State.Completes

variable {s : State}

/-- Reset and every byte at the port complete: an unaccepted command and a byte of no transaction are next states too
(R174, R175). -/
theorem exec_port {c : Instr} (hc : c.isEvent = false) : s.Completes (Machine.exec c s) := by
  have hcommand := s.commandByte_outside
  have hsilent (cmd : PortCommand) : (s.laterByte cmd noEffect).outside = s.outside :=
    State.laterByte_outside fun _ _ => rfl
  have heffect {cmd : PortCommand} {n : Nat} {effect : Transaction → State → State}
      (he : ∀ x u, (effect x u).outside = u.outside) : (s.laterByte cmd (atByte n effect)).outside = s.outside :=
    State.laterByte_outside (atByte_outside he)
  cases c with
  | reset => exact done rfl
  | resetRelease x low => exact whenDue _ (outside_ite (State.startStation_outside _) rfl)
  | ident byte | readConfig byte | readRoster byte =>
    cases byte with
    | command => exact done (hcommand _ _ _)
    | later sdi => exact done (hsilent _)
  | writeConfig byte =>
    cases byte with
    | command => exact done (hcommand _ _ _)
    | later sdi =>
      refine done (State.laterByte_outside fun x u => ?_)
      exact (atByte_outside (replaceRecord_outside sdi) x _).trans (keepByte_outside sdi x u)
  | start byte =>
    cases byte with
    | command => exact done (hcommand _ _ _)
    | later sdi => exact done (heffect fun _ u => u.startStation_outside)
  | readStatus byte | readHistory byte =>
    cases byte with
    | command => exact done (outside_ite rfl rfl)
    | later sdi => exact done (heffect fun _ _ => rfl)
  | aside byte =>
    cases byte with
    | command => exact done (hcommand _ _ _)
    | later sdi => exact done (heffect takeAside_outside)
  | ret byte | clearFault byte =>
    cases byte with
    | command => exact done (hcommand _ _ _)
    | later sdi => exact done (heffect fun _ _ => rfl)
  | unknown code byte =>
    cases byte with
    | command => exact done (outside_ite (hcommand _ _ _) rfl)
    | later sdi => exact done (hsilent _)
  | transactionCut => exact whenDue _ rfl
  | _ => simp [Instr.isEvent] at hc

theorem exec (c : Instr) : s.Completes (Machine.exec c s) := by
  cases hc : c.isEvent with
  | true => exact exec_event hc
  | false => exact exec_port hc

end State.Completes

end Sys2Proof.Machine

open Sys2Proof Sys2Proof.Machine

/-- Settles O1: the command set at the front of the queue is the one a step takes. -/
theorem stepTakesTheFrontCommand : Obligations.StepTakesTheFrontCommand := by
  intro c rest s
  have hfront : (s.setPending (c :: rest)).pending = c :: rest := s.setPending_pending _
  rw [step_of_pending_cons hfront, State.setPending_setPending]

/-- Settles O2: every event, every reset and every byte at the port completes, and its outside is the one before. -/
theorem everyCommandCompletes : Obligations.EveryCommandCompletes := by
  intro c s
  obtain ⟨t, hnext, hsame⟩ := State.Completes.exec (s := s) c
  exact ⟨t, hnext, State.outside_eq_iff.mp hsame⟩
end
